-- ==== Sys2Proof/Word.lean ====
section
/-! DEFINITION. The word types of the block (00_scope.md R8) and zero extension. -/

namespace Sys2Proof

/-- An unsigned 8-bit value (R8). -/
abbrev U8 := BitVec 8

/-- An unsigned 16-bit value (R8). -/
abbrev U16 := BitVec 16

/-- An unsigned 32-bit value (R8). -/
abbrev U32 := BitVec 32

/-- The 40-bit operation word `opw[39:0]` (30_encoding.md R90). -/
abbrev OpWord := BitVec 40

/-- `zext_32(v)` (R9); every operand it is used on is at most 32 bits wide. -/
abbrev zext32 {n : Nat} (v : BitVec n) : U32 := v.setWidth 32

/-- A Boolean as the one bit `1 = true = set` (R8), zero-extended to 32 bits. -/
def bit32 (b : Bool) : U32 := if b then 1#32 else 0#32

end Sys2Proof
end

