-- ==== Sys2Proof/Config.lean ====
section
/-! DEFINITION. The configuration record `Cfg` of 00_scope.md R6, its well-formedness (R7), the configuration
`TV-CFG` of 95_test_vectors.md, and the free values: constants without a body, so that no proof can see them. -/

namespace Sys2Proof

/-- The unit of a delay: `millisecondDelay` or `microsecondDelay` (R6, R70). -/
inductive TimeUnit where
  | ms
  | us
deriving DecidableEq, Repr

/-- A delay `(unit, n)`, `n` a natural number (R6). -/
structure Delay where
  unit : TimeUnit
  n : Nat
deriving DecidableEq, Repr

/-- The settings `(avgShift, pkpkTol, fast)` of one stabilized sample (R6, R67). -/
structure StabSetting where
  avgShift : U8
  pkpkTol : U16
  fast : Bool
deriving DecidableEq, Repr

/-- The configuration of one instance of the block, field by field as R6 lists it.
`mvTable` stands for the total function `mvOf`: see `Cfg.mvOf`. `rangeResistances` says of the outside what R7 (f) is
about: the resistance that `RANGE_ID[i]` selects, in any unit; only `Cfg.wf` reads it (DESIGN CHOICE, log entry 17).
`quenchThresholdMv` has the source's one value as its default and stays overridable (R6; 92_eei_decisions.md D23). -/
structure Cfg where
  captureBits : Nat
  counterBits : Nat
  numRanges : Nat
  rangeIds : List U8
  rangeResistances : List Nat
  rangeHalfValues : List U32
  numFreqSettings : Nat
  freqShifts : List Nat
  freqHighBound : U32
  freqLowBound : U32
  hystThreshold : U32
  calThreshold1 : U16
  calThreshold2 : U16
  dacMax : U16
  vbiasMinMv : U16
  stepupThresholdMv : U16
  proximityBandMv : U16
  overshootAllowanceMv : U16
  quenchThresholdMv : U16 := 100#16
  tSoftstart : Delay
  tStepupOff : Delay
  tStepupOn : Delay
  tDacStep : Delay
  tFineSettle : Delay
  decCoarse : StabSetting
  decFine : StabSetting
  incCoarse : StabSetting
  incFineAvgShift : U8
  quenchAvgShift : U8
  vbiasCh : BitVec 2
  currentCh : BitVec 2
  vbiasGain : U8
  mvTable : List (U16 × U16)
deriving DecidableEq, Repr

/-- What an ADC answer is when the environment's tape has run out: any value (R66, R67; U1, U12).
Applied to a counter, so that no two draws are related (DESIGN CHOICE, log entry 9). -/
opaque Config.adcDraw : Nat → U16

/-- What a configuration table holds past its end. No run from reset reads it (10_state.md R33, R34); it is free
so that no proof can lean on a value there (DESIGN CHOICE, log entry 12). -/
opaque Config.noSuchEntry : Nat → Nat

/-- What 32 lines carry for a number they are too narrow for. The spec states no value: a delay's length and a range
index are natural numbers (R6; 10_state.md R31), their port and their register are 32 bits wide (20_memory.md R65;
10_state.md R50). It is free (DESIGN CHOICE, log entry 16). -/
opaque Config.wideNumber : Nat → U32

namespace Cfg

/-- `mvOf(code)` (R6, R73): any total function of the code. It is written as data, the codes it does not map to
themselves; `mvOf_reaches_every_function` of Laws/Config.lean says that every function is reached. -/
def mvOf (c : Cfg) (code : U16) : U16 := (c.mvTable.lookup code).getD code

/-- `RANGE_ID[i]` (R6). -/
def rangeId (c : Cfg) (i : Nat) : U8 := c.rangeIds.getD i (BitVec.ofNat 8 (Config.noSuchEntry i))

/-- `RANGE_HALF_VALUE[i]` (R6). -/
def rangeHalfValue (c : Cfg) (i : Nat) : U32 :=
  c.rangeHalfValues.getD i (BitVec.ofNat 32 (Config.noSuchEntry i))

/-- `FREQ_SHIFT[s]` (R6). -/
def freqShift (c : Cfg) (s : Nat) : Nat := c.freqShifts.getD s (Config.noSuchEntry s)

/-- The field types and ranges of R6, with the table lengths they give (DEDUCED, log entry 15), and the constraints
(a) to (f) of R7. -/
abbrev Constraints (c : Cfg) : Prop :=
  (1 ≤ c.captureBits ∧ c.captureBits ≤ 32) ∧
  (1 ≤ c.counterBits ∧ c.counterBits ≤ 32) ∧
  1 ≤ c.numRanges ∧
  c.rangeIds.length = c.numRanges ∧
  c.rangeResistances.length = c.numRanges ∧
  c.rangeResistances.Pairwise (· ≤ ·) ∧
  c.rangeHalfValues.length = c.numRanges ∧
  1 ≤ c.numFreqSettings ∧
  c.freqShifts.length = c.numFreqSettings ∧
  (∀ k ∈ c.freqShifts, k ≤ 31 ∧ c.counterBits + k ≤ 32) ∧
  c.freqLowBound ≤ c.freqHighBound ∧
  c.hystThreshold.toNat < 2 ^ 32 - 1 ∧
  1 ≤ c.dacMax.toNat ∧
  c.vbiasMinMv < c.stepupThresholdMv ∧
  c.vbiasCh ≠ 0 ∧ c.currentCh ≠ 0 ∧ c.vbiasCh ≠ c.currentCh

/-- Whether a configuration is well formed (R7). -/
def wf (c : Cfg) : Bool := decide c.Constraints

/-- `TV-CFG` of 95_test_vectors.md (92_eei_decisions.md D47): the only configuration the spec writes out. It gives no
resistances; their ranks stand here (log entry 17). -/
def testVector : Cfg where
  captureBits := 16
  counterBits := 16
  numRanges := 4
  rangeIds := [0x10#8, 0x11#8, 0x12#8, 0x13#8]
  rangeResistances := [0, 1, 2, 3]
  rangeHalfValues := [500#32, 5000#32, 50000#32, 500000#32]
  numFreqSettings := 3
  freqShifts := [0, 2, 4]
  freqHighBound := 200000#32
  freqLowBound := 10000#32
  hystThreshold := 2#32
  calThreshold1 := 0x0400#16
  calThreshold2 := 0x0C00#16
  dacMax := 15#16
  vbiasMinMv := 1000#16
  stepupThresholdMv := 4000#16
  proximityBandMv := 300#16
  overshootAllowanceMv := 50#16
  quenchThresholdMv := 100#16
  tSoftstart := ⟨.ms, 10⟩
  tStepupOff := ⟨.ms, 1⟩
  tStepupOn := ⟨.ms, 5⟩
  tDacStep := ⟨.us, 200⟩
  tFineSettle := ⟨.us, 500⟩
  decCoarse := ⟨2#8, 40#16, true⟩
  decFine := ⟨4#8, 10#16, false⟩
  incCoarse := ⟨2#8, 40#16, true⟩
  incFineAvgShift := 6#8
  quenchAvgShift := 3#8
  vbiasCh := 1#2
  currentCh := 2#2
  vbiasGain := 0#8
  mvTable := []

end Cfg

end Sys2Proof
end

