-- ==== Sys2Proof/Syntax.lean ====
section
/-! DEFINITION. The operations of the block: one constructor per row of spec/opcode_table.json
(30_encoding.md R92, R93). -/

namespace Sys2Proof

/-- An operation with its operand (R93). `CAPTURE` has one constructor per polarity, as the table has two rows.
`w` and `raw` are 32 bits here; that they fit `CAPTURE_BITS` and `COUNTER_BITS` is `Instr.wf`
(DEDUCED, log entry 14). -/
inductive Instr where
  /-- `CAPTURE` with `pol = 0`: a falling half-cycle of width `w` (R121). -/
  | captureF (w : U32)
  /-- `CAPTURE` with `pol = 1`: a rising half-cycle of width `w` (R121). -/
  | captureR (w : U32)
  /-- `CAPOVF`: the capture timer overflowed (R122). -/
  | capovf
  /-- `WINCLOSE raw`: the window closes at raw counter value `raw` (R123). -/
  | winclose (raw : U32)
  /-- `CAP.ENTER s`: enter capacitance mode at frequency setting `s` (R141). -/
  | capEnter (setting : U8)
  /-- `CAP.EXIT`: disable the resistor range mux (R146). -/
  | capExit
  /-- `RANGE.POLL v`: one invocation of the range controller (R142). -/
  | rangePoll (v : Bool)
  /-- `CUR.ENTER g`: configure the current-sense amplifier chain (R161). -/
  | curEnter (g : U8)
  /-- `CUR.READ a`: one averaged current sample (R162). -/
  | curRead (a : U8)
  /-- `CUR.EXIT`: turn the current-sense amplifier off (R163). -/
  | curExit
  /-- `VBIAS.ENABLE mv`: turn the bias on and go to `mv` (R172). -/
  | vbiasEnable (mv : U16)
  /-- `VBIAS.UPDATE mv`: regulate to `mv` (R174). -/
  | vbiasUpdate (mv : U16)
  /-- `VBIAS.DISABLE`: bring the bias down (R185). -/
  | vbiasDisable
  /-- `RDREG n`: read state register `n` (R200). -/
  | rdreg (n : U8)
deriving DecidableEq, Repr

/-- The class of R91: an event word writes down a strobe, every other word travels on the command port. -/
def Instr.isEvent : Instr → Bool
  | .captureF _ => true
  | .captureR _ => true
  | .capovf => true
  | .winclose _ => true
  | .capEnter _ => false
  | .capExit => false
  | .rangePoll _ => false
  | .curEnter _ => false
  | .curRead _ => false
  | .curExit => false
  | .vbiasEnable _ => false
  | .vbiasUpdate _ => false
  | .vbiasDisable => false
  | .rdreg _ => false

end Sys2Proof
end

