-- ==== Sys2Proof/WellFormed.lean ====
section
/-! DEFINITION. Which operations are well formed under a configuration: the operand fields whose width is a `Cfg`
parameter fit that width (30_encoding.md R93, R94). The other fields have their width in their type. -/

namespace Sys2Proof

/-- A value that leaves every bit at and above `bits` zero. -/
abbrev FitsIn (bits : Nat) (v : U32) : Prop := v.toNat < 2 ^ bits

/-- `CAPTURE`'s width fits `CAPTURE_BITS`, `WINCLOSE`'s raw count fits `COUNTER_BITS` (R93). Range conditions of
`CAP.ENTER` and `RDREG` are checked by the operation itself, not here (R94). -/
def Instr.wf (c : Cfg) : Instr → Bool
  | .captureF w => decide (FitsIn c.captureBits w)
  | .captureR w => decide (FitsIn c.captureBits w)
  | .capovf => true
  | .winclose raw => decide (FitsIn c.counterBits raw)
  | .capEnter _ => true
  | .capExit => true
  | .rangePoll _ => true
  | .curEnter _ => true
  | .curRead _ => true
  | .curExit => true
  | .vbiasEnable _ => true
  | .vbiasUpdate _ => true
  | .vbiasDisable => true
  | .rdreg _ => true

end Sys2Proof
end

