-- ==== Sys2Proof/Decode.lean ====
section
/-! DEFINITION. The decoder, total on every 40-bit word, rejecting by name; then the encoder, written from the same
tables (30_encoding.md R90 to R95). -/

namespace Sys2Proof

/-- What the decoder reads from a word. -/
inductive Decoded where
  /-- A well-formed word (R94). -/
  | instr (i : Instr)
  /-- `op` is not assigned by R92 (R95). -/
  | reservedOpcode (op : U8)
  /-- `op` is assigned and a reserved operand bit is not zero (R94, R95). -/
  | reservedOperand (op : U8)
deriving DecidableEq, Repr

/-- `opw[39:32]` (R90). -/
def opField (w : OpWord) : U8 := w.extractLsb' 32 8

/-- `opw[31:0]` (R90). -/
def operandField (w : OpWord) : U32 := w.extractLsb' 0 32

/-- `op ++ operand` (R90). -/
def makeWord (op : U8) (operand : U32) : OpWord := op ++ operand

/-- Event opcodes are 0x10 to 0x13 (R91). -/
def isEventOpcode (op : U8) : Bool := decide (0x10#8 ≤ op ∧ op ≤ 0x13#8)

/-- The instruction if the operand's reserved bits are zero, that is if it fits its field (R93, R94). -/
def checkOperand (op : U8) (bits : Nat) (operand : U32) (i : Instr) : Decoded :=
  if FitsIn bits operand then .instr i else .reservedOperand op

/-- The opcode map of R92 with the operand layout of R93. -/
def decodeFields (c : Cfg) (op : U8) (x : U32) : Decoded :=
  match op.toNat with
  | 0x10 => checkOperand op c.captureBits x (.captureF x)
  | 0x11 => checkOperand op c.captureBits x (.captureR x)
  | 0x12 => checkOperand op 0 x .capovf
  | 0x13 => checkOperand op c.counterBits x (.winclose x)
  | 0x20 => checkOperand op 8 x (.capEnter (x.setWidth 8))
  | 0x21 => checkOperand op 0 x .capExit
  | 0x22 => checkOperand op 1 x (.rangePoll (x.getLsbD 0))
  | 0x30 => checkOperand op 8 x (.curEnter (x.setWidth 8))
  | 0x31 => checkOperand op 8 x (.curRead (x.setWidth 8))
  | 0x32 => checkOperand op 0 x .curExit
  | 0x40 => checkOperand op 16 x (.vbiasEnable (x.setWidth 16))
  | 0x41 => checkOperand op 16 x (.vbiasUpdate (x.setWidth 16))
  | 0x42 => checkOperand op 0 x .vbiasDisable
  | 0x50 => checkOperand op 8 x (.rdreg (x.setWidth 8))
  | _ => .reservedOpcode op

/-- 'A decoder reads `op`, looks it up in rule R92, then checks the operand by rule R94' (R90). -/
def decode (c : Cfg) (w : OpWord) : Decoded := decodeFields c (opField w) (operandField w)

/-- The byte convention of R61: 'the opcode byte first and then the operand most significant byte first'. -/
def wordOfBytes (b0 b1 b2 b3 b4 : U8) : OpWord := b0 ++ b1 ++ b2 ++ b3 ++ b4

/-- The five bytes of a word in the order of R61; as ten hexadecimal digits this is the packed form of R103. -/
def bytesOfWord (w : OpWord) : List U8 :=
  [w.extractLsb' 32 8, w.extractLsb' 24 8, w.extractLsb' 16 8, w.extractLsb' 8 8, w.extractLsb' 0 8]

/-- Decoding a byte string: the first operation word and the bytes after it, none when fewer than five are left
(R90: there is one length). -/
def decodeBytes (c : Cfg) : List U8 → Option (Decoded × List U8)
  | b0 :: b1 :: b2 :: b3 :: b4 :: rest => some (decode c (wordOfBytes b0 b1 b2 b3 b4), rest)
  | _ => none

/-- The opcode byte of R92. -/
def Instr.opcode : Instr → U8
  | .captureF _ => 0x10#8
  | .captureR _ => 0x11#8
  | .capovf => 0x12#8
  | .winclose _ => 0x13#8
  | .capEnter _ => 0x20#8
  | .capExit => 0x21#8
  | .rangePoll _ => 0x22#8
  | .curEnter _ => 0x30#8
  | .curRead _ => 0x31#8
  | .curExit => 0x32#8
  | .vbiasEnable _ => 0x40#8
  | .vbiasUpdate _ => 0x41#8
  | .vbiasDisable => 0x42#8
  | .rdreg _ => 0x50#8

/-- The operand of R93, right-aligned and zero-extended. -/
def Instr.operand : Instr → U32
  | .captureF w => w
  | .captureR w => w
  | .capovf => 0
  | .winclose raw => raw
  | .capEnter s => zext32 s
  | .capExit => 0
  | .rangePoll v => bit32 v
  | .curEnter g => zext32 g
  | .curRead a => zext32 a
  | .curExit => 0
  | .vbiasEnable mv => zext32 mv
  | .vbiasUpdate mv => zext32 mv
  | .vbiasDisable => 0
  | .rdreg n => zext32 n

/-- The operation word of an instruction (R90, R92, R93). -/
def encode (i : Instr) : OpWord := makeWord i.opcode i.operand

/-- The word an opcode-table row numbers: bit 0 is bit 0 of the one 40-bit word (R90); bits at and above `nbits`
are zero (DEDUCED, log entry 21). -/
def tableWord (nbits w : Nat) : OpWord := BitVec.ofNat 40 (w % 2 ^ nbits)

/-- The decoder on a table row's word, under the configuration that `State.reset` carries. -/
def decodeTableWord (nbits w : Nat) : Option Instr :=
  match decode Cfg.testVector (tableWord nbits w) with
  | .instr i => some i
  | .reservedOpcode _ => none
  | .reservedOperand _ => none

end Sys2Proof
end

