-- ==== Sys2Proof/Machine/State.lean ====
section
/-! DEFINITION. The state: every register and pin of 10_state.md, the sequencer's position with its local variables
(R21), what the ports have shown (20_memory.md R65), and the environment as data: the inputs still to come and the
ADC's answers. State is plain data. -/

namespace Sys2Proof.Machine

open Sys2Proof

/-- `sourceMode` (R38). The value 3 of its two bits 'is never held', so it is no constructor. -/
inductive SourceMode where
  | off
  | ldoRegulated
  | stepUpConverter
deriving DecidableEq, Repr

/-- `adcCfg`, the shadow of the last `AdcConfigure`; `ch = 0` means never configured (R44). -/
structure AdcCfg where
  ch : BitVec 2
  gain : U8
deriving DecidableEq, Repr

/-- The output pins, each a register (R46). -/
structure Pins where
  ldoEn : Bool
  stepupEn : Bool
  quenchEn : Bool
  dacEn : Bool
  dacCode : U16
  rselEn : Bool
  rselId : U8
  csampEn : Bool
deriving DecidableEq, Repr

/-- The local variables of an Update command: `t`, `m`, `fine`, `sat`, `flags` (R21, 43_bias_servo.md R174). -/
structure Search where
  t : U16
  m : U16
  fine : Bool
  sat : Bool
  flags : U8
deriving DecidableEq, Repr

/-- The delays of the pseudocode, with what the command carries across each (43_bias_servo.md). -/
inductive DelayPoint where
  /-- `VBIAS.ENABLE mv`: `Delay(T_SOFTSTART)` (R172). -/
  | softstart (mv : U16)
  /-- Decreasing, after the source switch: `Delay(T_STEPUP_OFF)` (R177). -/
  | stepupOff (l : Search)
  /-- Increasing, after the source switch: `Delay(T_STEPUP_ON)` (R180). -/
  | stepupOn (l : Search)
  /-- Decreasing, after a DAC step: `Delay(T_DAC_STEP)` (R178, R179). -/
  | decStep (l : Search)
  /-- Increasing, after a DAC step: `Delay(T_DAC_STEP)` (R181, R179). -/
  | incStep (l : Search)
  /-- Increasing and close: `Delay(T_FINE_SETTLE)` (R181). -/
  | fineSettle (l : Search)
deriving DecidableEq, Repr

/-- The ADC samples of the pseudocode, with what the command carries across each. -/
inductive SamplePoint where
  /-- `CUR.READ a`: `AdcAvg(CURRENT_CH, a)` (42_current_mode.md R162). -/
  | curRead (a : U8)
  /-- The decreasing search's sample (43_bias_servo.md R178). -/
  | decSearch (l : Search)
  /-- The increasing search's sample (R181). -/
  | incSearch (l : Search)
  /-- The next sample of the wait of `VBIAS.DISABLE` (R185, R187). -/
  | quench
deriving DecidableEq, Repr

/-- The sequencer's position: what comes next in the command in progress, with the command's local variables (R21).
A delay and a sample are two transitions each, the request and its completion, so that events run while the sequencer
waits (20_memory.md R66, R70). A command's first micro-step belongs to its acceptance, so no constructor stands before
one (DEDUCED, log entries 6 and 7). -/
inductive Seq where
  /-- Between commands (R21). -/
  | idle
  /-- `Respond(flags, value)` comes next (30_encoding.md R98). -/
  | respond (flags : U8) (value : U32)
  /-- `dly_req` comes next (R70). -/
  | delay (d : DelayPoint)
  /-- `dly_req` has been strobed and `dly_done` is awaited (R70). -/
  | delayDone (d : DelayPoint)
  /-- `adc_req` comes next (R66, R67). -/
  | sample (k : SamplePoint)
  /-- `adc_req` has been strobed and `adc_rsp_valid` is awaited (R66, R67). -/
  | answer (k : SamplePoint)
  /-- `CAP.ENTER`: the mux pin write comes next (R141). -/
  | capEnterMux
  /-- `CUR.ENTER g`: `AdcConfigure(CURRENT_CH, g, 1)` comes next (R161). -/
  | curEnterConfigure (g : U8)
  /-- `VBIAS.ENABLE mv`: `enableLdo()` comes next (R172). -/
  | enableLdo (mv : U16)
  /-- `VBIAS.ENABLE mv` continues as Update from `t <- mv` (R172, R174). -/
  | enableUpdate (mv : U16)
  /-- Update after a clamp: the no-op test of the clamped target comes next (R174, R175). -/
  | updateClamped
  /-- Decreasing: the source switch, or where there is none the search (R177). -/
  | decEntry (l : Search)
  /-- Decreasing: the head of the loop (R178). -/
  | decLoop (l : Search)
  /-- Increasing: the source switch, or where there is none the search (R180). -/
  | incEntry (l : Search)
  /-- Increasing: the head of the loop (R181). -/
  | incLoop (l : Search)
  /-- A search accepted its last sample: record and respond come next (R183). -/
  | searchDone (l : Search)
  /-- `VBIAS.DISABLE`: `enableQuench()` comes next (R185). -/
  | disQuench
  /-- `VBIAS.DISABLE`: `AdcConfigure(VBIAS_CH, VBIAS_GAIN, 1)` comes next (R185). -/
  | disConfigure
  /-- `VBIAS.DISABLE`: the wait is over at `m`, `disableQuench()` comes next (R185). -/
  | disQuenchOff (m : U16)
  /-- `VBIAS.DISABLE`: record and respond come next (R185). -/
  | disRecord (m : U16)
deriving DecidableEq, Repr

/-- The host report record (R72). -/
structure Report where
  divider : U32
  fallAcc : U32
  oscCnt : U32
  halfR : U32
  thr1 : U16
  thr2 : U16
deriving DecidableEq, Repr

/-- One strobe on an output port of R65, with the data valid at it. A data line a request does not use
(`AdcStab` has no channel, R67) has no value here (DESIGN CHOICE, log entry 11). -/
inductive Strobe where
  /-- `rsp_valid` (R98). -/
  | response (flags : U8) (value : U32)
  /-- `rpt_valid` (R72). -/
  | report (r : Report)
  /-- `adc_req`, kind 0: `AdcAvg(ch, shift)` (R66). -/
  | adcAverage (ch : BitVec 2) (shift : U8)
  /-- `adc_req`, kind 1: `AdcStab(set)` (R67). -/
  | adcStabilized (set : StabSetting)
  /-- `adccfg_req` (R68). -/
  | adcConfigure (ch : BitVec 2) (gain : U8) (settle : Bool)
  /-- `dly_req` (R70), with `dly_unit` and `dly_n`. -/
  | delay (unit : TimeUnit) (n : U32)
deriving DecidableEq, Repr

/-- What the environment does next, one entry a transition (R74, R77, R78; DESIGN CHOICE, log entries 4 and 5). -/
inductive Input where
  /-- An operation word of a program or trace (R91): an event word is its strobe, any other word is presented on
  the command port. -/
  | trace (w : OpWord)
  /-- `cmd_valid` with `cmd_op ++ cmd_operand = w`: any word at all, event words included (R95, R96). -/
  | command (w : OpWord)
  /-- `adc_rsp_valid` with `adc_code` (R65, R66). -/
  | adcRsp (code : U16)
  /-- `dly_done` (R65, R70). -/
  | dlyDone
  /-- The foreground goes on (R77): its next transition, or, where it waits, the oracle's answer or the end of the
  delay. -/
  | turn
  /-- The environment waits for the response of the command in progress (R97). -/
  | await
  /-- `rst` (70_reset_and_hazards.md R241). -/
  | rst
deriving DecidableEq, Repr

/-- Whatever answers an ADC read that no input answers (R11, R66, R67): first `tape`, code by code; then `forever` for
ever, or, where that is `none`, the free draws `Config.adcDraw`, counted by `draws` (DESIGN CHOICE, log entry 9). -/
structure Oracle where
  tape : List U16
  forever : Option U16
  draws : Nat
deriving DecidableEq, Repr

/-- The state. `cfg` is the instance's constant (R49), carried here because a step has no other argument; no
transition writes it. `strobes` is what the output ports have shown since reset, newest first. `schedule` and
`oracle` are the environment's (DESIGN CHOICE, log entries 3, 4, 9 and 10). -/
structure State where
  cfg : Cfg
  curRiseAcc : U32
  curFallAcc : U32
  curRiseCnt : U32
  curFallCnt : U32
  lastRiseAcc : U32
  lastFallAcc : U32
  lastRiseCnt : U32
  lastFallCnt : U32
  oscFreqCnt : U32
  prevRawCount : U32
  windowReady : Bool
  overflowFlag : Bool
  consecutiveOverflowCount : U32
  currentRangeIndex : Nat
  consecutiveOutOfBandCount : U32
  freqSetting : Nat
  requestedVoltageMv : U16
  lastMeasuredVoltageMv : U16
  dacCode : U16
  sourceMode : SourceMode
  curGain : U8
  adcCfg : AdcCfg
  fgBusy : Bool
  pins : Pins
  seq : Seq
  strobes : List Strobe
  schedule : List Input
  oracle : Oracle
deriving DecidableEq, Repr

/-- Why the block stops with a fault: never. 'MSE raises no exception, trap or panic, synchronous or otherwise'
(60_exceptions.md R210), so the type has no constructor. -/
inductive Fault where
deriving DecidableEq, Repr

/-- Why there is no next state. -/
inductive Refusal where
  /-- Raised by `exec` for an instruction without a meaning; no arm raises it any more. Safe. -/
  | notModelled (mnemonic : String)
  /-- Raised by `step` when the configuration is not well formed: 'a model refuses to run on one that is not'
  (00_scope.md R7; U13). Safe. -/
  | illFormedConfiguration
  /-- Raised by the delivery of an event word with a reserved bit set: it 'spells no event: the decoder refuses the
  trace' (30_encoding.md R95 (b); U5). Safe. -/
  | illFormedTrace (w : OpWord)
deriving DecidableEq, Repr

/-- All pins deasserted (R46, R240). -/
def Pins.reset : Pins where
  ldoEn := false
  stepupEn := false
  quenchEn := false
  dacEn := false
  dacCode := 0
  rselEn := false
  rselId := 0
  csampEn := false

/-- An oracle with no tape: every answer is a free draw. -/
def Oracle.free : Oracle where
  tape := []
  forever := none
  draws := 0

/-- The state of R240 for an instance configured with `c`, with no input scheduled. -/
def State.resetWith (c : Cfg) : State where
  cfg := c
  curRiseAcc := 0
  curFallAcc := 0
  curRiseCnt := 0
  curFallCnt := 0
  lastRiseAcc := 0
  lastFallAcc := 0
  lastRiseCnt := 0
  lastFallCnt := 0
  oscFreqCnt := 0
  prevRawCount := 0
  windowReady := false
  overflowFlag := false
  consecutiveOverflowCount := 0
  currentRangeIndex := 0
  consecutiveOutOfBandCount := 0
  freqSetting := 0
  requestedVoltageMv := 0
  lastMeasuredVoltageMv := 0
  dacCode := 0
  sourceMode := .off
  curGain := 0
  adcCfg := ⟨0, 0⟩
  fgBusy := false
  pins := Pins.reset
  seq := .idle
  strobes := []
  schedule := []
  oracle := Oracle.free

/-- The machine right after reset (R240), as the instance `TV-CFG` (log entry 1: every statement about reset is
made for `State.resetWith c`, for every `c`). -/
def State.reset : State := State.resetWith Cfg.testVector

end Sys2Proof.Machine
end

