-- ==== Sys2Proof/Machine/Flags.lean ====
section
/-! DEFINITION. The response flags of 30_encoding.md R99 and the conditions that set them. The stored flags
(`windowReady`, `overflowFlag`, `fgBusy`, 10_state.md R45) are fields of State. -/

namespace Sys2Proof.Machine

open Sys2Proof

namespace Flag

/-- Bit 0: the command was refused. -/
def illegal : U8 := 0x01#8

/-- Bit 1: the target was below the minimum and was replaced by it (R175). -/
def clamped : U8 := 0x02#8

/-- Bit 2: no ready window (R142), or the target already set (R176). -/
def noop : U8 := 0x04#8

/-- Bit 3: a search ended at the DAC's bound (R178, R181, R183). -/
def saturated : U8 := 0x08#8

/-- Bit 4: this poll moved the range up (R144). -/
def rangeUp : U8 := 0x10#8

/-- Bit 5: this poll moved the range down (R145). -/
def rangeDown : U8 := 0x20#8

/-- Bit 6: this poll emitted a report (R148). -/
def report : U8 := 0x40#8

end Flag

/-- `flags | SATURATED` when `sat = 1` (R183). -/
def Search.responseFlags (l : Search) : U8 := if l.sat then l.flags ||| Flag.saturated else l.flags

/-- The decreasing search accepts `m`: 'at or below target' (R178). -/
def decAccepts (t m : U16) : Bool := decide (m ≤ t)

/-- The decreasing search's proximity, for `m > t` (R178). -/
def decClose (c : Cfg) (t m : U16) : Bool := decide (m.toNat - t.toNat ≤ c.proximityBandMv.toNat)

/-- The increasing search accepts `m`: no more than the allowance below the target, one-sided; the sum is the
mathematical one (R181, R182). -/
def incAccepts (c : Cfg) (t m : U16) : Bool := decide (t.toNat ≤ m.toNat + c.overshootAllowanceMv.toNat)

/-- The increasing search's proximity, for `m < t` (R181). -/
def incClose (c : Cfg) (t m : U16) : Bool := decide (t.toNat - m.toNat ≤ c.proximityBandMv.toNat)

/-- Disable's wait ends at `m`: 'Under' is strictly less (R185). -/
def quenched (c : Cfg) (m : U16) : Bool := decide (m < c.quenchThresholdMv)

end Sys2Proof.Machine
end

