-- ==== Sys2Proof/Machine/Ops.lean ====
section
/-! DEFINITION. The shared operations: the primitives of 00_scope.md R9 as transitions, and the acceptance and
refusal of a command (30_encoding.md R95 to R98). The block has no memory (20_memory.md R60) and takes no exception
(60_exceptions.md R210); an event saves and restores nothing (R217, R218). -/

namespace Sys2Proof.Machine

open Sys2Proof

/-- The result type of a meaning. -/
abbrev Result := Host.Outcome State Fault Refusal

/-- A natural number on 32 lines, zero-extended where it fits (10_state.md R50; 20_memory.md R65, R72). -/
def number32 (n : Nat) : U32 := if n < 2 ^ 32 then BitVec.ofNat 32 n else Config.wideNumber n

/-- The strobe of `dly_req` for a delay (R70). -/
def delayRequest (d : Delay) : Strobe := .delay d.unit (number32 d.n)

namespace State

/-- Move the sequencer. -/
def goto (s : State) (q : Seq) : State := { s with seq := q }

/-- Strobe an output port. -/
def strobe (s : State) (o : Strobe) : State := { s with strobes := o :: s.strobes }

/-- `Respond(flags, value)` (R98): the response strobe, and the sequencer is idle again. -/
def respond (s : State) (flags : U8) (value : U32) : State :=
  { s with fgBusy := false, seq := .idle, strobes := .response flags value :: s.strobes }

/-- `Delay(d)`'s request (R70). -/
def delay (s : State) (d : Delay) : State := s.strobe (delayRequest d)

/-- `setDacCode(c)` (R47): the code and the DAC's enable in one micro-step. -/
def setDacCode (s : State) (c : U16) : State :=
  { s with dacCode := c, pins := { s.pins with dacCode := c, dacEn := true } }

/-- `setResistorRange(RANGE_ID[i])` (R149). -/
def setResistorRange (s : State) (i : Nat) : State :=
  { s with pins := { s.pins with rselId := s.cfg.rangeId i, rselEn := true } }

/-- `AdcConfigure(ch, gain, 1)` (R68): nothing if `adcCfg` already names both. -/
def adcConfigure (s : State) (ch : BitVec 2) (gain : U8) : State :=
  if s.adcCfg = ⟨ch, gain⟩ then s
  else { s with adcCfg := ⟨ch, gain⟩, strobes := .adcConfigure ch gain true :: s.strobes }

/-- `AdcConfigure(VBIAS_CH, VBIAS_GAIN, 1)`, before a servo command's first sample (R69). -/
def adcConfigureBias (s : State) : State := s.adcConfigure s.cfg.vbiasCh s.cfg.vbiasGain

/-- `Emit` of the record of R72, from the state at that moment. -/
def reportRecord (s : State) : Report where
  divider := number32 s.freqSetting
  fallAcc := s.lastFallAcc
  oscCnt := s.oscFreqCnt
  halfR := s.cfg.rangeHalfValue s.currentRangeIndex
  thr1 := s.cfg.calThreshold1
  thr2 := s.cfg.calThreshold2

end State

/-- The oracle's next answer: any value (R66, R67). -/
def Oracle.answer (o : Oracle) : U16 :=
  match o.tape with
  | c :: _ => c
  | [] => o.forever.getD (Config.adcDraw o.draws)

/-- The oracle after it has answered. -/
def Oracle.advance (o : Oracle) : Oracle :=
  match o.tape, o.forever with
  | _ :: rest, _ => { o with tape := rest }
  | [], some _ => o
  | [], none => { o with draws := o.draws + 1 }

namespace State

/-- `cmd_ready = not fgBusy` (R65). -/
def cmdReady (s : State) : Bool := !s.fgBusy

/-- Acceptance (R96): `fgBusy <- 1` and the command's first micro-step. A strobe while `cmd_ready = 0` 'is not
accepted and has no effect' (R97; DEDUCED, log entry 6). -/
def accept (s : State) (first : State → State) : State :=
  if s.cmdReady then first { s with fgBusy := true } else s

/-- `Respond(ILLEGAL, 0)` (R95, R213). -/
def refuse (s : State) : State := s.respond Flag.illegal 0

/-- The reset input (R241): the state of R240. The instance's configuration stays, and the environment's inputs and
oracle are not the block's (DEDUCED, log entry 18). -/
def resetInput (s : State) : State :=
  { State.resetWith s.cfg with schedule := s.schedule, oracle := s.oracle }

end State

end Sys2Proof.Machine
end

