-- ==== Sys2Proof/Machine/Accumulator.lean ====
section
/-! DEFINITION. The events (40_accumulator_events.md): each is one atomic transition, accepted in every state
(R120), and touches neither the sequencer nor a pin. -/

namespace Sys2Proof.Machine

open Sys2Proof

namespace State

/-- R121's second branch: the width into the rise accumulator, one pulse counted, each modulo `2^32`
(R51; DESIGN CHOICE, log entry 13). -/
def addRise (s : State) (w : U32) : State :=
  { s with curRiseAcc := s.curRiseAcc + w, curRiseCnt := s.curRiseCnt + 1 }

/-- R121's third branch, for the fall accumulator. -/
def addFall (s : State) (w : U32) : State :=
  { s with curFallAcc := s.curFallAcc + w, curFallCnt := s.curFallCnt + 1 }

/-- R121's first branch: the sample is discarded and the flag cleared. -/
def discardPulse (s : State) : State := { s with overflowFlag := false }

/-- `CAPTURE pol, w` (R121). -/
def capture (s : State) (pol : Bool) (w : U32) : State :=
  if s.overflowFlag then s.discardPulse else if pol then s.addRise w else s.addFall w

/-- `CAPOVF` (R122). -/
def captureOverflow (s : State) : State :=
  { s with overflowFlag := true, consecutiveOverflowCount := s.consecutiveOverflowCount + 1 }

end State

/-- R123's `d`: the count since the previous raw value, one wraparound assumed when `raw < prev` (R124, R125). -/
def windowCount (counterBits : Nat) (prev raw : U32) : Nat :=
  if raw < prev then raw.toNat + 2 ^ counterBits - prev.toNat else raw.toNat - prev.toNat

namespace State

/-- `WINCLOSE raw` (R123): count, latch, zero and set the flag in one transition. `overflowFlag` is left (R124). -/
def closeWindow (s : State) (raw : U32) : State :=
  { s with
    oscFreqCnt := BitVec.ofNat 32 (windowCount s.cfg.counterBits s.prevRawCount raw)
    prevRawCount := raw
    lastRiseAcc := s.curRiseAcc
    curRiseAcc := 0
    lastFallAcc := s.curFallAcc
    curFallAcc := 0
    lastRiseCnt := s.curRiseCnt
    curRiseCnt := 0
    lastFallCnt := s.curFallCnt
    curFallCnt := 0
    consecutiveOverflowCount := 0
    windowReady := true }

end State

/-- `CAPTURE` with `pol = 0` (R121). -/
def execCaptureF (w : U32) (s : State) : Result := .next (s.capture false w)

/-- `CAPTURE` with `pol = 1` (R121). -/
def execCaptureR (w : U32) (s : State) : Result := .next (s.capture true w)

/-- `CAPOVF` (R122). -/
def execCapovf (s : State) : Result := .next s.captureOverflow

/-- `WINCLOSE raw` (R123). -/
def execWinclose (raw : U32) (s : State) : Result := .next (s.closeWindow raw)

end Sys2Proof.Machine
end

