-- ==== Sys2Proof/Machine/Current.lean ====
section
/-! DEFINITION. Current measurement mode (42_current_mode.md): `CUR.ENTER`, `CUR.READ`, `CUR.EXIT`. -/

namespace Sys2Proof.Machine

open Sys2Proof

namespace State

/-- `CUR.ENTER g`, first micro-step: the gain is kept and the amplifier enabled (R161). -/
def curEnterFirst (s : State) (g : U8) : State :=
  { s with curGain := g, pins := { s.pins with csampEn := true }, seq := .curEnterConfigure g }

/-- `CUR.ENTER g`, `AdcConfigure(CURRENT_CH, g, 1)` (R161). -/
def curEnterConfigure (s : State) (g : U8) : State :=
  (s.adcConfigure s.cfg.currentCh g).goto (.respond 0 0)

/-- `CUR.READ a`, first micro-step: the ADC is pointed back if another command moved it (R162). -/
def curReadFirst (s : State) (a : U8) : State :=
  (s.adcConfigure s.cfg.currentCh s.curGain).goto (.sample (.curRead a))

/-- `CUR.READ`, the answer: the raw code is returned, with no conversion (R162, R160). -/
def curReadAnswered (s : State) (code : U16) : State := s.goto (.respond 0 (zext32 code))

/-- `CUR.EXIT`, the amplifier's pin write (R163). -/
def curExitFirst (s : State) : State :=
  { s with pins := { s.pins with csampEn := false }, seq := .respond 0 0 }

end State

/-- `CUR.ENTER g` (R161). -/
def execCurEnter (g : U8) (s : State) : Result := .next (s.accept (·.curEnterFirst g))

/-- `CUR.READ a` (R162). -/
def execCurRead (a : U8) (s : State) : Result := .next (s.accept (·.curReadFirst a))

/-- `CUR.EXIT` (R163). -/
def execCurExit (s : State) : Result := .next (s.accept (·.curExitFirst))

end Sys2Proof.Machine
end

