-- ==== Sys2Proof/Machine/Range.lean ====
section
/-! DEFINITION. The capacitance range controller (41_range_controller.md): `CAP.ENTER`, `CAP.EXIT`, `RANGE.POLL`. -/

namespace Sys2Proof.Machine

open Sys2Proof

namespace State

/-- The atomic group of `CAP.ENTER setting` (R141). -/
def enterCapacitance (s : State) (setting : U8) : State :=
  { s with
    curRiseAcc := 0
    curFallAcc := 0
    curRiseCnt := 0
    curFallCnt := 0
    windowReady := false
    consecutiveOutOfBandCount := 0
    freqSetting := setting.toNat }

/-- `CAP.ENTER setting`, first micro-step: refused out of range, else the atomic group (R141). -/
def capEnterFirst (s : State) (setting : U8) : State :=
  if s.cfg.numFreqSettings ≤ setting.toNat then s.refuse
  else (s.enterCapacitance setting).goto .capEnterMux

/-- `CAP.ENTER`, the mux pin write (R141). -/
def capEnterMux (s : State) : State := (s.setResistorRange s.currentRangeIndex).goto (.respond 0 0)

/-- `CAP.EXIT`, the mux pin write; `O.rsel_id` keeps its value (R146). -/
def capExitFirst (s : State) : State :=
  { s with pins := { s.pins with rselEn := false }, seq := .respond 0 0 }

/-- The frequency estimate (R143). -/
def freqEstimate (s : State) : U32 := s.oscFreqCnt <<< s.cfg.freqShift s.freqSetting

/-- Above the high bound and not at the highest range (R144). -/
abbrev TooFast (s : State) (f : U32) : Prop :=
  s.cfg.freqHighBound < f ∧ s.currentRangeIndex + 1 < s.cfg.numRanges

/-- Below the low bound and not at the lowest range (R145). -/
abbrev TooSlow (s : State) (f : U32) : Prop := f < s.cfg.freqLowBound ∧ 0 < s.currentRangeIndex

/-- One more counted out-of-band window takes the counter past the threshold (R144, R145). -/
abbrev MovesNow (s : State) : Prop := s.cfg.hystThreshold < s.consecutiveOutOfBandCount + 1

/-- A range move: the new index, the mux, and the hysteresis counter zeroed (R144, R145). -/
def moveRange (s : State) (i : Nat) : State :=
  { s with currentRangeIndex := i, consecutiveOutOfBandCount := 0 }.setResistorRange i

/-- An out-of-band window is counted (R144, R145). -/
def countOutOfBand (s : State) : State :=
  { s with consecutiveOutOfBandCount := s.consecutiveOutOfBandCount + 1 }

/-- The range decision for estimate `f` (R142, R144, R145, R147), with the flag it sets. -/
def decideRange (s : State) (f : U32) : State × U8 :=
  if s.TooFast f then
    if s.MovesNow then (s.moveRange (s.currentRangeIndex + 1), Flag.rangeUp) else (s.countOutOfBand, 0)
  else if s.TooSlow f then
    if s.MovesNow then (s.moveRange (s.currentRangeIndex - 1), Flag.rangeDown) else (s.countOutOfBand, 0)
  else ({ s with consecutiveOutOfBandCount := 0 }, 0)

/-- The report of a verbose poll, after the range decision (R148). -/
def reportIf (v : Bool) (p : State × U8) : State × U8 :=
  if v then (p.1.strobe (.report p.1.reportRecord), p.2 ||| Flag.report) else p

/-- A ready window is consumed (R142). -/
def consumeWindow (s : State) : State := { s with windowReady := false, consecutiveOverflowCount := 0 }

/-- The atomic group of `RANGE.POLL v` (R142), whose response is still to come. -/
def pollRange (s : State) (v : Bool) : State :=
  if s.windowReady then
    let p := reportIf v (s.consumeWindow.decideRange s.freqEstimate)
    p.1.goto (.respond p.2 s.freqEstimate)
  else s.goto (.respond Flag.noop 0)

end State

/-- `CAP.ENTER setting` (R141). -/
def execCapEnter (setting : U8) (s : State) : Result := .next (s.accept (·.capEnterFirst setting))

/-- `CAP.EXIT` (R146). -/
def execCapExit (s : State) : Result := .next (s.accept (·.capExitFirst))

/-- `RANGE.POLL v` (R142). -/
def execRangePoll (v : Bool) (s : State) : Result := .next (s.accept (·.pollRange v))

end Sys2Proof.Machine
end

