-- ==== Sys2Proof/Machine/Operands.lean ====
section
/-! DEFINITION. The operand forms. Every operand is an immediate field of the word (30_encoding.md R93), taken out by
Decode.lean; the one that selects something is RDREG's register number (10_state.md R50, 44_register_read.md R203). -/

namespace Sys2Proof.Machine

open Sys2Proof

/-- The two bits of `sourceMode` (R38). -/
def SourceMode.code : SourceMode → U32
  | .off => 0
  | .ldoRegulated => 1
  | .stepUpConverter => 2

/-- Register 10, `accStatus` (R50). -/
def State.accStatus (s : State) : U32 := bit32 s.windowReady ||| bit32 s.overflowFlag <<< 1

/-- Register 19, `outPins` (R50). -/
def Pins.word (p : Pins) : U32 :=
  bit32 p.ldoEn ||| bit32 p.stepupEn <<< 1 ||| bit32 p.quenchEn <<< 2 ||| bit32 p.dacEn <<< 3 |||
    bit32 p.rselEn <<< 4 ||| bit32 p.csampEn <<< 5

/-- Register 21, `adcCfg` (R50). -/
def AdcCfg.word (a : AdcCfg) : U32 := zext32 a.ch ||| zext32 a.gain <<< 2

/-- `zext_32(x[n])`: the register numbers of R50, none for the reserved ones. -/
def State.readRegister (s : State) (n : Nat) : Option U32 :=
  match n with
  | 0 => some s.curRiseAcc
  | 1 => some s.curFallAcc
  | 2 => some s.curRiseCnt
  | 3 => some s.curFallCnt
  | 4 => some s.lastRiseAcc
  | 5 => some s.lastFallAcc
  | 6 => some s.lastRiseCnt
  | 7 => some s.lastFallCnt
  | 8 => some s.oscFreqCnt
  | 9 => some s.prevRawCount
  | 10 => some s.accStatus
  | 11 => some s.consecutiveOverflowCount
  | 12 => some (number32 s.currentRangeIndex)
  | 13 => some s.consecutiveOutOfBandCount
  | 14 => some (number32 s.freqSetting)
  | 15 => some (zext32 s.requestedVoltageMv)
  | 16 => some (zext32 s.lastMeasuredVoltageMv)
  | 17 => some (zext32 s.dacCode)
  | 18 => some s.sourceMode.code
  | 19 => some s.pins.word
  | 20 => some (zext32 s.pins.rselId)
  | 21 => some s.adcCfg.word
  | 22 => some (zext32 s.curGain)
  | _ => none

end Sys2Proof.Machine
end

