-- ==== Sys2Proof/Machine/RegisterRead.lean ====
section
/-! DEFINITION. `RDREG` (44_register_read.md). -/

namespace Sys2Proof.Machine

open Sys2Proof

/-- The atomic read, or the refusal of a reserved number (R200, R201). -/
def State.rdregFirst (s : State) (n : U8) : State :=
  match s.readRegister n.toNat with
  | some v => s.goto (.respond 0 v)
  | none => s.refuse

/-- `RDREG n` (R200). -/
def execRdreg (n : U8) (s : State) : Result := .next (s.accept (·.rdregFirst n))

end Sys2Proof.Machine
end

