-- ==== Sys2Proof/Machine/Servo.lean ====
section
/-! DEFINITION. The bias-voltage servo (43_bias_servo.md): `VBIAS.ENABLE`, `VBIAS.UPDATE`, `VBIAS.DISABLE`, one
definition per micro-step. -/

namespace Sys2Proof.Machine

open Sys2Proof

namespace State

/-- Whether a source is on: the precondition of R171 and R173. -/
abbrev IsOff (s : State) : Prop := s.sourceMode = .off

/-- R183: record the target and the measurement, and respond. -/
def recordSearch (s : State) (l : Search) : State :=
  { s with requestedVoltageMv := l.t, lastMeasuredVoltageMv := l.m }.respond l.responseFlags (zext32 l.m)

/-- R174's last lines for the target `t`, already clamped: the no-op of R176, or the ADC pointed at the bias channel
(R69), the locals set, and the direction taken from the recorded request. -/
def updateTo (s : State) (t : U16) (flags : U8) : State :=
  if t = s.requestedVoltageMv then s.respond (flags ||| Flag.noop) (zext32 s.lastMeasuredVoltageMv)
  else
    let l : Search := ⟨t, s.lastMeasuredVoltageMv, false, true, flags⟩
    s.adcConfigureBias.goto (if t < s.requestedVoltageMv then .decEntry l else .incEntry l)

/-- R174 from the line `t <- mv`: the clamp of R175 is a micro-step of its own when it writes the quench pin. -/
def updateFrom (s : State) (mv : U16) : State :=
  if mv < s.cfg.vbiasMinMv then { s with pins := { s.pins with quenchEn := false }, seq := .updateClamped }
  else s.updateTo mv 0

/-- R174 after a clamp (R175). -/
def updateClamped (s : State) : State := s.updateTo s.cfg.vbiasMinMv Flag.clamped

/-- `VBIAS.UPDATE mv`, first micro-step (R173, R174). -/
def vbiasUpdateFirst (s : State) (mv : U16) : State := if s.IsOff then s.refuse else s.updateFrom mv

/-- `VBIAS.ENABLE mv`, first micro-step: refused when on (R171), else the reset phase with the DAC write (R172). -/
def vbiasEnableFirst (s : State) (mv : U16) : State :=
  if s.IsOff then
    ({ s with requestedVoltageMv := s.cfg.vbiasMinMv, lastMeasuredVoltageMv := s.cfg.vbiasMinMv }.setDacCode
      s.cfg.dacMax).goto (.enableLdo mv)
  else s.refuse

/-- `VBIAS.ENABLE mv`, `enableLdo()` (R172). -/
def enableLdo (s : State) (mv : U16) : State :=
  { s with pins := { s.pins with ldoEn := true }, sourceMode := .ldoRegulated, seq := .delay (.softstart mv) }

/-- The head of the decreasing loop: the bound is tested first, then the code is stepped up (R178 (a), (b)). -/
def decLoop (s : State) (l : Search) : State :=
  if s.dacCode < s.cfg.dacMax then (s.setDacCode (s.dacCode + 1)).goto (.delay (.decStep l)) else s.recordSearch l

/-- The source switch of R177, or the first step of the search where nothing is crossed. -/
def decEntry (s : State) (l : Search) : State :=
  if s.cfg.stepupThresholdMv ≤ s.requestedVoltageMv ∧ l.t < s.cfg.stepupThresholdMv then
    { s with pins := { s.pins with stepupEn := false }, sourceMode := .ldoRegulated, seq := .delay (.stepupOff l) }
  else s.decLoop l

/-- The decreasing search's tests of the sample `m` (R178). -/
def decAnswered (s : State) (l : Search) (m : U16) : State :=
  s.goto (if decAccepts l.t m then .searchDone { l with m := m, sat := false }
    else .decLoop { l with m := m, fine := decClose s.cfg l.t m })

/-- The head of the increasing loop (R181). -/
def incLoop (s : State) (l : Search) : State :=
  if 0 < s.dacCode then (s.setDacCode (s.dacCode - 1)).goto (.delay (.incStep l)) else s.recordSearch l

/-- The source switch of R180, or the first step of the search where nothing is crossed. -/
def incEntry (s : State) (l : Search) : State :=
  if s.requestedVoltageMv < s.cfg.stepupThresholdMv ∧ s.cfg.stepupThresholdMv ≤ l.t then
    { s with pins := { s.pins with stepupEn := true }, sourceMode := .stepUpConverter, seq := .delay (.stepupOn l) }
  else s.incLoop l

/-- The increasing search's tests of the sample `m` (R181, R182). -/
def incAnswered (s : State) (l : Search) (m : U16) : State :=
  s.goto (if incAccepts s.cfg l.t m then .searchDone { l with m := m, sat := false }
    else .incLoop { l with m := m, fine := incClose s.cfg l.t m })

/-- `VBIAS.DISABLE`, first micro-step: both paths and the DAC off (R185). -/
def vbiasDisableFirst (s : State) : State :=
  { s with
    pins := { s.pins with stepupEn := false, ldoEn := false, dacEn := false }
    sourceMode := .off
    seq := .disQuench }

/-- `VBIAS.DISABLE`, `enableQuench()` (R185). -/
def disQuench (s : State) : State := { s with pins := { s.pins with quenchEn := true }, seq := .disConfigure }

/-- `VBIAS.DISABLE`, the ADC is pointed at the bias channel (R185). -/
def disConfigure (s : State) : State := s.adcConfigureBias.goto (.sample .quench)

/-- The test of one sample `m` of the wait, which has no bound (R185, R187). -/
def quenchAnswered (s : State) (m : U16) : State :=
  s.goto (if quenched s.cfg m then .disQuenchOff m else .sample .quench)

/-- `VBIAS.DISABLE`, `disableQuench()` (R185). -/
def disQuenchOff (s : State) (m : U16) : State :=
  { s with pins := { s.pins with quenchEn := false }, seq := .disRecord m }

/-- `VBIAS.DISABLE`, record and respond (R185). -/
def disRecord (s : State) (m : U16) : State :=
  { s with lastMeasuredVoltageMv := m, requestedVoltageMv := 0 }.respond 0 (zext32 m)

end State

/-- `VBIAS.ENABLE mv` (R171, R172). -/
def execVbiasEnable (mv : U16) (s : State) : Result := .next (s.accept (·.vbiasEnableFirst mv))

/-- `VBIAS.UPDATE mv` (R173, R174). -/
def execVbiasUpdate (mv : U16) (s : State) : Result := .next (s.accept (·.vbiasUpdateFirst mv))

/-- `VBIAS.DISABLE` (R185). -/
def execVbiasDisable (s : State) : Result := .next (s.accept (·.vbiasDisableFirst))

end Sys2Proof.Machine
end

