-- ==== Sys2Proof/Machine/Dispatch.lean ====
section
/-! DEFINITION. One arm per operation. For an event the meaning is its transition; for a command it is the
presentation on the command port: its acceptance with its first micro-step, or no effect while the port is busy.
The micro-steps that follow are Machine/Sequencer.lean's. -/

namespace Sys2Proof.Machine

open Sys2Proof

def exec (i : Instr) (s : State) : Host.Outcome State Fault Refusal :=
  match i with
  | .captureF w => Sys2Proof.Machine.execCaptureF w s
  | .captureR w => Sys2Proof.Machine.execCaptureR w s
  | .capovf => Sys2Proof.Machine.execCapovf s
  | .winclose raw => Sys2Proof.Machine.execWinclose raw s
  | .capEnter setting => Sys2Proof.Machine.execCapEnter setting s
  | .capExit => Sys2Proof.Machine.execCapExit s
  | .rangePoll v => Sys2Proof.Machine.execRangePoll v s
  | .curEnter g => Sys2Proof.Machine.execCurEnter g s
  | .curRead a => Sys2Proof.Machine.execCurRead a s
  | .curExit => Sys2Proof.Machine.execCurExit s
  | .vbiasEnable mv => Sys2Proof.Machine.execVbiasEnable mv s
  | .vbiasUpdate mv => Sys2Proof.Machine.execVbiasUpdate mv s
  | .vbiasDisable => Sys2Proof.Machine.execVbiasDisable s
  | .rdreg n => Sys2Proof.Machine.execRdreg n s

end Sys2Proof.Machine
end

