-- ==== Sys2Proof/Machine/Sequencer.lean ====
section
/-! DEFINITION. The foreground agent: delays and samples as request and completion, and the transition that stands at
the sequencer's position (10_state.md R21; 20_memory.md R66, R67, R70, R74, R77). -/

namespace Sys2Proof.Machine

open Sys2Proof

/-- The length of a delay (43_bias_servo.md R172, R177 to R181). -/
def DelayPoint.setting (c : Cfg) : DelayPoint → Delay
  | .softstart _ => c.tSoftstart
  | .stepupOff _ => c.tStepupOff
  | .stepupOn _ => c.tStepupOn
  | .decStep _ => c.tDacStep
  | .incStep _ => c.tDacStep
  | .fineSettle _ => c.tFineSettle

/-- What comes after a delay (R172, R177 to R181). -/
def DelayPoint.after : DelayPoint → Seq
  | .softstart mv => .enableUpdate mv
  | .stepupOff l => .decLoop l
  | .stepupOn l => .incLoop l
  | .decStep l => .sample (.decSearch l)
  | .incStep l => if l.fine then .delay (.fineSettle l) else .sample (.incSearch l)
  | .fineSettle l => .sample (.incSearch l)

/-- The request of a sample (R178, R181, R185; 42_current_mode.md R162). -/
def SamplePoint.request (c : Cfg) : SamplePoint → Strobe
  | .curRead a => .adcAverage c.currentCh a
  | .decSearch l => .adcStabilized (if l.fine then c.decFine else c.decCoarse)
  | .incSearch l => if l.fine then .adcAverage c.vbiasCh c.incFineAvgShift else .adcStabilized c.incCoarse
  | .quench => .adcAverage c.vbiasCh c.quenchAvgShift

namespace State

/-- The sample is answered with `code`; a servo command converts it once by `mvOf` (43_bias_servo.md R191). -/
def answered (s : State) (k : SamplePoint) (code : U16) : State :=
  match k with
  | .curRead _ => s.curReadAnswered code
  | .decSearch l => s.decAnswered l (s.cfg.mvOf code)
  | .incSearch l => s.incAnswered l (s.cfg.mvOf code)
  | .quench => s.quenchAnswered (s.cfg.mvOf code)

/-- `adc_rsp_valid` with `adc_code` (R65, R66). It answers the request that is outstanding; where none is, no rule
gives it an effect (DEDUCED, log entry 8). -/
def adcRsp (s : State) (code : U16) : State :=
  match s.seq with
  | .answer k => s.answered k code
  | _ => s

/-- `dly_done` (R65, R70). It ends the delay that is outstanding; where none is, no rule gives it an effect (DEDUCED,
log entry 8). -/
def dlyDone (s : State) : State :=
  match s.seq with
  | .delayDone d => s.goto d.after
  | _ => s

/-- The oracle answers the outstanding sample `k` (R66, R67). -/
def oracleAnswers (s : State) (k : SamplePoint) : State :=
  { s with oracle := s.oracle.advance }.answered k s.oracle.answer

/-- The foreground's next transition; nothing when no command is in progress. Where the sequencer waits, the surface,
which always answers, completes the delay or answers from the oracle (R66, R67, R70). -/
def turn (s : State) : State :=
  match s.seq with
  | .idle => s
  | .respond flags value => s.respond flags value
  | .delay d => (s.delay (d.setting s.cfg)).goto (.delayDone d)
  | .delayDone _ => s.dlyDone
  | .sample k => (s.strobe (k.request s.cfg)).goto (.answer k)
  | .answer k => s.oracleAnswers k
  | .capEnterMux => s.capEnterMux
  | .curEnterConfigure g => s.curEnterConfigure g
  | .enableLdo mv => s.enableLdo mv
  | .enableUpdate mv => s.updateFrom mv
  | .updateClamped => s.updateClamped
  | .decEntry l => s.decEntry l
  | .decLoop l => s.decLoop l
  | .incEntry l => s.incEntry l
  | .incLoop l => s.incLoop l
  | .searchDone l => s.recordSearch l
  | .disQuench => s.disQuench
  | .disConfigure => s.disConfigure
  | .disQuenchOff m => s.disQuenchOff m
  | .disRecord m => s.disRecord m

/-- `k` foreground transitions in a row, no event between them. -/
def turns : Nat → State → State
  | 0, s => s
  | k + 1, s => turns k s.turn

end State

end Sys2Proof.Machine
end

