-- ==== Sys2Proof/Machine/Deliver.lean ====
section
/-! DEFINITION. The environment's inputs, each one transition: delivering an operation word, presenting one on the
command port, an ADC answer, the end of a delay, a foreground turn, the wait for a response, and reset (20_memory.md
R65, R74 to R78; 30_encoding.md R91, R95 to R97; 70_reset_and_hazards.md R241). -/

namespace Sys2Proof.Machine

open Sys2Proof

/-- The answer to a word that is no command: accepted and answered at once (R95 (a)), or no effect while busy
(R97). -/
def rejectOnPort (s : State) : Result := .next (s.accept (·.refuse))

/-- Anything presented on the command port; an event word is no command (R95 (a)). -/
def commandPort (w : OpWord) (s : State) : Result :=
  match decode s.cfg w with
  | .instr i => if i.isEvent then rejectOnPort s else exec i s
  | .reservedOpcode _ => rejectOnPort s
  | .reservedOperand _ => rejectOnPort s

/-- A word of a program or trace: a well-formed word is run; an ill-formed event word 'spells no event: the decoder
refuses the trace' (R95 (b)); any other word is one for the command port (DEDUCED, log
entry 19). -/
def deliver (w : OpWord) (s : State) : Result :=
  match decode s.cfg w with
  | .instr i => exec i s
  | .reservedOpcode _ => rejectOnPort s
  | .reservedOperand op => if isEventOpcode op then .refused (.illFormedTrace w) else rejectOnPort s

/-- One transition from the head of the schedule. With nothing scheduled the foreground goes on (R74, R262). -/
def transition (s : State) : Result :=
  match s.schedule with
  | [] => .next s.turn
  | .trace w :: rest => deliver w { s with schedule := rest }
  | .command w :: rest => commandPort w { s with schedule := rest }
  | .adcRsp code :: rest => .next ({ s with schedule := rest }.adcRsp code)
  | .dlyDone :: rest => .next { s with schedule := rest }.dlyDone
  | .turn :: rest => .next { s with schedule := rest }.turn
  | .await :: rest => if s.fgBusy then .next s.turn else .next { s with schedule := rest }
  | .rst :: rest => .next { s with schedule := rest }.resetInput

/-- A word scheduled before everything else. -/
def State.scheduleFirst (s : State) (w : OpWord) : State := { s with schedule := .trace w :: s.schedule }

end Sys2Proof.Machine
end

