-- ==== Sys2Proof/Machine/Step.lean ====
section
/-! DEFINITION. One step: one transition of the block (20_memory.md R78), on a well-formed configuration (R7). -/

namespace Sys2Proof.Machine

open Sys2Proof

/-- 'A model refuses to run' on a configuration that is not well formed (00_scope.md R7). -/
def step (s : State) : Host.Outcome State Fault Refusal :=
  if s.cfg.wf then transition s else .refused .illFormedConfiguration

/-- The block fetches nothing (10_state.md R21): words are delivered to it, so the next word is the head of the
schedule. -/
def State.withFetchWord (s : State) (nbits w : Nat) : State := s.scheduleFirst (tableWord nbits w)

end Sys2Proof.Machine
end

