-- ==== Sys2Proof/Safety.lean ====
section
/-! DEFINITION. The terms claims use: the invariant of the block, what separates its parts (10_state.md R48), what a
record of strobes counts, and the descriptive words of 00_scope.md R12. -/

namespace Sys2Proof

/-- The source that has to regulate at `mv`: `LdoRegulated` below the activation threshold, `StepUpConverter` at or
above it (10_state.md R40). -/
def Cfg.sourceFor (c : Cfg) (mv : U16) : Machine.SourceMode :=
  if mv < c.stepupThresholdMv then .ldoRegulated else .stepUpConverter

namespace Machine

/-- A sample of a servo command. -/
def SamplePoint.isServo : SamplePoint → Bool
  | .curRead _ => false
  | .decSearch _ => true
  | .incSearch _ => true
  | .quench => true

/-- A servo command stands at this position (R12, R40). Every delay is a servo command's. -/
def Seq.isServo : Seq → Bool
  | .idle => false
  | .respond _ _ => false
  | .delay _ => true
  | .delayDone _ => true
  | .sample k => k.isServo
  | .answer k => k.isServo
  | .capEnterMux => false
  | .curEnterConfigure _ => false
  | .enableLdo _ => true
  | .enableUpdate _ => true
  | .updateClamped => true
  | .decEntry _ => true
  | .decLoop _ => true
  | .incEntry _ => true
  | .incLoop _ => true
  | .searchDone _ => true
  | .disQuench => true
  | .disConfigure => true
  | .disQuenchOff _ => true
  | .disRecord _ => true

/-- A `CUR` command stands at this position, its response apart. -/
def Seq.isCurrent : Seq → Bool
  | .curEnterConfigure _ => true
  | .sample k => !k.isServo
  | .answer k => !k.isServo
  | _ => false

/-- The servo 'state machine' of R12: a description, read by no rule. -/
inductive ServoPhase where
  | off
  | ramping
  | holding
deriving DecidableEq, Repr

/-- R12's three words as a function of stored state and sequencer activity. -/
def State.servoPhase (s : State) : ServoPhase :=
  if s.seq.isServo then .ramping else if s.sourceMode = .off then .off else .holding

/-- The sequencer is idle, as it is between commands (R21, R43). -/
structure State.Idle (s : State) : Prop where
  notBusy : s.fgBusy = false
  seqIdle : s.seq = .idle

/-- The pins of R192 for each mode. -/
def PinsFollow (m : SourceMode) (p : Pins) : Prop :=
  match m with
  | .off => p.ldoEn = false ∧ p.stepupEn = false ∧ p.dacEn = false ∧ p.quenchEn = false
  | .ldoRegulated => p.ldoEn = true ∧ p.stepupEn = false ∧ p.dacEn = true ∧ p.quenchEn = false
  | .stepUpConverter => p.ldoEn = true ∧ p.stepupEn = true ∧ p.dacEn = true ∧ p.quenchEn = false

/-- The supply as a servo command leaves it: the pins of R192, and R40's arbitration of the recorded request. -/
def State.Settled (s : State) : Prop :=
  PinsFollow s.sourceMode s.pins ∧ (s.sourceMode ≠ .off → s.sourceMode = s.cfg.sourceFor s.requestedVoltageMv)

/-- `adcCfg` names the bias channel, as it has to before `AdcStab`, which names none (R67, R69). -/
def State.PointedAtBias (s : State) : Prop := s.adcCfg = ⟨s.cfg.vbiasCh, s.cfg.vbiasGain⟩

/-- A search for `l.t`: the source is the one for the target, and the ADC is pointed at the bias channel. -/
def State.Searching (s : State) (l : Search) : Prop :=
  PinsFollow s.sourceMode s.pins ∧ s.sourceMode = s.cfg.sourceFor l.t ∧ s.PointedAtBias

/-- Disable's turn-offs have been done, and the quench pin is as given (R185). -/
def State.TurnedOff (s : State) (quench : Bool) : Prop :=
  s.sourceMode = .off ∧ s.pins.ldoEn = false ∧ s.pins.stepupEn = false ∧ s.pins.dacEn = false ∧
    s.pins.quenchEn = quench

/-- What holds before and during a delay. -/
def State.AtDelay (s : State) : DelayPoint → Prop
  | .softstart _ => s.Settled ∧ s.sourceMode ≠ .off
  | .stepupOff l => s.Searching l
  | .stepupOn l => s.Searching l
  | .decStep l => s.Searching l
  | .incStep l => s.Searching l
  | .fineSettle l => s.Searching l

/-- What holds before a sample and while its answer is awaited. -/
def State.AtSample (s : State) : SamplePoint → Prop
  | .curRead _ => s.Settled ∧ s.adcCfg = ⟨s.cfg.currentCh, s.curGain⟩
  | .decSearch l => s.Searching l
  | .incSearch l => s.Searching l
  | .quench => s.TurnedOff true ∧ s.PointedAtBias

/-- What holds at each position of the sequencer. -/
def State.AtPosition (s : State) : Prop :=
  match s.seq with
  | .idle => s.Settled
  | .respond _ _ => s.Settled
  | .delay d => s.AtDelay d
  | .delayDone d => s.AtDelay d
  | .sample k => s.AtSample k
  | .answer k => s.AtSample k
  | .capEnterMux => s.Settled
  | .curEnterConfigure g => s.Settled ∧ s.curGain = g
  | .enableLdo _ =>
    s.sourceMode = .off ∧ s.requestedVoltageMv = s.cfg.vbiasMinMv ∧ s.pins.ldoEn = false ∧
      s.pins.stepupEn = false ∧ s.pins.dacEn = true ∧ s.pins.quenchEn = false
  | .enableUpdate _ => s.Settled ∧ s.sourceMode ≠ .off
  | .updateClamped => s.Settled ∧ s.sourceMode ≠ .off
  | .decEntry l => s.Settled ∧ s.sourceMode ≠ .off ∧ s.PointedAtBias ∧ l.t < s.requestedVoltageMv
  | .decLoop l => s.Searching l
  | .incEntry l => s.Settled ∧ s.sourceMode ≠ .off ∧ s.PointedAtBias ∧ s.requestedVoltageMv < l.t
  | .incLoop l => s.Searching l
  | .searchDone l => s.Searching l
  | .disQuench => s.TurnedOff false
  | .disConfigure => s.TurnedOff true
  | .disQuenchOff m => s.TurnedOff true ∧ m < s.cfg.quenchThresholdMv
  | .disRecord m => s.TurnedOff false ∧ m < s.cfg.quenchThresholdMv

/-- The invariant of the block. -/
structure State.Inv (s : State) : Prop where
  /-- R7, R245. -/
  cfgWf : s.cfg.wf = true
  /-- R43: busy from acceptance to `Respond`. -/
  busy : s.fgBusy = decide (s.seq ≠ .idle)
  /-- R28: `prevRawCount` is `COUNTER_BITS` wide. -/
  rawFits : FitsIn s.cfg.counterBits s.prevRawCount
  /-- R25: `oscFreqCnt` is below `2^COUNTER_BITS`. -/
  countFits : FitsIn s.cfg.counterBits s.oscFreqCnt
  /-- R31, R34. -/
  rangeInBounds : s.currentRangeIndex < s.cfg.numRanges
  /-- R33. -/
  settingInBounds : s.freqSetting < s.cfg.numFreqSettings
  /-- R32. -/
  hysteresisBounded : s.consecutiveOutOfBandCount ≤ s.cfg.hystThreshold
  /-- R37. -/
  dacBounded : s.dacCode ≤ s.cfg.dacMax
  /-- R50: the DAC pins carry the code. -/
  dacPins : s.pins.dacCode = s.dacCode
  /-- R141, R149: an enabled mux selects the range of the index. -/
  muxFollowsIndex : s.pins.rselEn = true → s.pins.rselId = s.cfg.rangeId s.currentRangeIndex
  /-- R40, R192 and what leads to them. -/
  atPosition : s.AtPosition

/-- Every register an event may write is as before (the event writers of R48). -/
structure SameAcc (s t : State) : Prop where
  curRiseAcc : t.curRiseAcc = s.curRiseAcc
  curFallAcc : t.curFallAcc = s.curFallAcc
  curRiseCnt : t.curRiseCnt = s.curRiseCnt
  curFallCnt : t.curFallCnt = s.curFallCnt
  lastRiseAcc : t.lastRiseAcc = s.lastRiseAcc
  lastFallAcc : t.lastFallAcc = s.lastFallAcc
  lastRiseCnt : t.lastRiseCnt = s.lastRiseCnt
  lastFallCnt : t.lastFallCnt = s.lastFallCnt
  oscFreqCnt : t.oscFreqCnt = s.oscFreqCnt
  prevRawCount : t.prevRawCount = s.prevRawCount
  windowReady : t.windowReady = s.windowReady
  overflowFlag : t.overflowFlag = s.overflowFlag
  consecutiveOverflowCount : t.consecutiveOverflowCount = s.consecutiveOverflowCount

/-- The range controller's own registers and its mux pins are as before (R48, R46). -/
structure SameRange (s t : State) : Prop where
  currentRangeIndex : t.currentRangeIndex = s.currentRangeIndex
  consecutiveOutOfBandCount : t.consecutiveOutOfBandCount = s.consecutiveOutOfBandCount
  freqSetting : t.freqSetting = s.freqSetting
  rselEn : t.pins.rselEn = s.pins.rselEn
  rselId : t.pins.rselId = s.pins.rselId

/-- The servo's registers and pins are as before (R48, R46). -/
structure SameServo (s t : State) : Prop where
  requestedVoltageMv : t.requestedVoltageMv = s.requestedVoltageMv
  lastMeasuredVoltageMv : t.lastMeasuredVoltageMv = s.lastMeasuredVoltageMv
  dacCode : t.dacCode = s.dacCode
  sourceMode : t.sourceMode = s.sourceMode
  ldoEn : t.pins.ldoEn = s.pins.ldoEn
  stepupEn : t.pins.stepupEn = s.pins.stepupEn
  quenchEn : t.pins.quenchEn = s.pins.quenchEn
  dacEn : t.pins.dacEn = s.pins.dacEn
  dacCodePin : t.pins.dacCode = s.pins.dacCode

/-- The current mode's register and pin are as before (R48, R46). -/
structure SameCurrent (s t : State) : Prop where
  curGain : t.curGain = s.curGain
  csampEn : t.pins.csampEn = s.pins.csampEn

/-- The sequencer, the ports and the environment are as before. -/
structure SameForeground (s t : State) : Prop where
  cfg : t.cfg = s.cfg
  adcCfg : t.adcCfg = s.adcCfg
  fgBusy : t.fgBusy = s.fgBusy
  seq : t.seq = s.seq
  strobes : t.strobes = s.strobes
  schedule : t.schedule = s.schedule
  oracle : t.oracle = s.oracle

/-- One response strobe. -/
def Strobe.isResponse : Strobe → Bool
  | .response _ _ => true
  | _ => false

/-- One ADC sample request. -/
def Strobe.isSample : Strobe → Bool
  | .adcAverage _ _ => true
  | .adcStabilized _ => true
  | _ => false

/-- How many responses the port has shown since reset. -/
def State.responseCount (s : State) : Nat := s.strobes.countP Strobe.isResponse

/-- How many ADC samples have been requested since reset. -/
def State.sampleCount (s : State) : Nat := s.strobes.countP Strobe.isSample

/-- The oracle after `k` answers. -/
def Oracle.after : Nat → Oracle → Oracle
  | 0, o => o
  | k + 1, o => Oracle.after k o.advance

/-- What lets the foreground go on: its own turn, an ADC answer, the end of a delay (20_memory.md R66, R70, R77). -/
inductive Progress where
  | turn
  | adcRsp (code : U16)
  | dlyDone
deriving DecidableEq, Repr

/-- The input that brings it. -/
def Progress.input : Progress → Input
  | .turn => .turn
  | .adcRsp code => .adcRsp code
  | .dlyDone => .dlyDone

/-- The foreground's transition on it. -/
def Progress.run (p : Progress) (s : State) : State :=
  match p with
  | .turn => s.turn
  | .adcRsp code => s.adcRsp code
  | .dlyDone => s.dlyDone

/-- An input that cannot end the wait of `VBIAS.DISABLE`: no reset, no ADC answer under the threshold, and no
ill-formed event word, which spells no event (30_encoding.md R95 (b)). -/
def Input.LeavesWaiting (c : Cfg) (x : Input) : Prop :=
  x ≠ .rst ∧ (∀ code : U16, x = .adcRsp code → c.quenchThresholdMv ≤ c.mvOf code) ∧
    ∀ w : OpWord, x = .trace w → isEventOpcode (opField w) = true → ∃ i : Instr, decode c w = .instr i

/-- The raw value the free-running counter shows after `edges` more edges (40_accumulator_events.md R124). -/
def State.rawAfter (s : State) (edges : Nat) : U32 :=
  BitVec.ofNat 32 ((s.prevRawCount.toNat + edges) % 2 ^ s.cfg.counterBits)

/-- `s` leads to `t` by one window of `edges` edges, one poll of it and the poll's response: three steps of the
machine, with exactly these inputs. -/
def State.PolledWindow (edges : Nat) (s t : State) : Prop :=
  Host.Core.run core 3
    { s with schedule := [.trace (encode (.winclose (s.rawAfter edges))), .trace (encode (.rangePoll false)), .turn] }
      = .next t

/-- `k` polled windows in a row. -/
def State.PolledWindows (edges : Nat) : Nat → State → State → Prop
  | 0, s, t => t = s
  | k + 1, s, t => ∃ u : State, State.PolledWindow edges s u ∧ State.PolledWindows edges k u t

end Machine

end Sys2Proof
end

