-- ==== Sys2Proof/Certificates/Slice0/Obligations.lean ====
section
/-! DEFINITION. The statements for the provers. -/

open Sys2Proof Sys2Proof.Machine

/-! ## Encoding -/

/-- Every well-formed operation's word decodes to it, whatever its operands (R90 to R94). -/
def Obligations.DecodeOfEncodeIsTheInstruction : Prop :=
  ∀ (c : Cfg) (i : Instr), i.wf c = true → decode c (encode i) = .instr i

/-- No second word spells an operation, and every operation read from a word is well formed: no reserved bit is
ignored (R94). -/
def Obligations.DecodedWordIsItsEncoding : Prop :=
  ∀ (c : Cfg) (w : OpWord) (i : Instr), decode c w = .instr i → encode i = w ∧ i.wf c = true

/-- The reserved opcodes of R95, and no others, are rejected as opcodes. -/
def Obligations.ReservedOpcodesAreExactlyThoseListed : Prop :=
  ∀ (c : Cfg) (w : OpWord), decode c w = .reservedOpcode (opField w) ↔
    (opField w).toNat ≤ 0x0F ∨ (0x14 ≤ (opField w).toNat ∧ (opField w).toNat ≤ 0x1F) ∨
    (0x23 ≤ (opField w).toNat ∧ (opField w).toNat ≤ 0x2F) ∨
    (0x33 ≤ (opField w).toNat ∧ (opField w).toNat ≤ 0x3F) ∨
    (0x43 ≤ (opField w).toNat ∧ (opField w).toNat ≤ 0x4F) ∨ 0x51 ≤ (opField w).toNat

/-- Words of the spec's test vectors decode as the spec writes them (95_test_vectors.md, under `TV-CFG`). -/
def Obligations.WrittenWordsDecode : Prop :=
  decode Cfg.testVector 0x1000000081#40 = .instr (.captureF 0x81#32) ∧
  decode Cfg.testVector 0x110000FFFF#40 = .instr (.captureR 0xFFFF#32) ∧
  decode Cfg.testVector 0x1300009000#40 = .instr (.winclose 0x9000#32) ∧
  decode Cfg.testVector 0x2200000001#40 = .instr (.rangePoll true) ∧
  decode Cfg.testVector 0x3100000004#40 = .instr (.curRead 4#8) ∧
  decode Cfg.testVector 0x41000004B0#40 = .instr (.vbiasUpdate 1200#16) ∧
  decode Cfg.testVector 0x500000000F#40 = .instr (.rdreg 15#8) ∧
  decode Cfg.testVector 0x2000000100#40 = .reservedOperand 0x20#8 ∧
  decode Cfg.testVector 0x1200000001#40 = .reservedOperand 0x12#8

/-! ## The step, the ports and reset -/

/-- A step runs the decoded instruction: the word at the head of the schedule is taken off it and run. A command
presented on the command port is run in the same way. -/
def Obligations.StepRunsTheDecodedInstruction : Prop :=
  ∀ (s : State) (w : OpWord) (rest : List Input) (i : Instr), s.cfg.wf = true → decode s.cfg w = .instr i →
    (s.schedule = .trace w :: rest → step s = exec i { s with schedule := rest }) ∧
    (s.schedule = .command w :: rest → i.isEvent = false → step s = exec i { s with schedule := rest })

/-- An ill-formed event word in a trace is refused (R95 (b)). -/
def Obligations.IllFormedEventWordIsRefused : Prop :=
  ∀ (s : State) (w : OpWord) (rest : List Input) (op : U8), s.cfg.wf = true → s.schedule = .trace w :: rest →
    decode s.cfg w = .reservedOperand op → 0x10#8 ≤ op → op ≤ 0x13#8 → step s = .refused (.illFormedTrace w)

/-- A word that is no well-formed command is answered at once with `(ILLEGAL, 0)`, and nothing else changes: on the
command port event words included (R95 (a)), and in a program every word that is not an event's (log entry 19 says that
such a word of a program is one for the command port). -/
def Obligations.NonCommandsOnThePortAreAnsweredIllegal : Prop :=
  ∀ (s : State) (w : OpWord) (rest : List Input), s.cfg.wf = true → s.Idle →
    ((s.schedule = .command w :: rest ∧ ∀ i : Instr, decode s.cfg w = .instr i → i.isEvent = true) ∨
      (s.schedule = .trace w :: rest ∧ isEventOpcode (opField w) = false ∧
        ∀ i : Instr, decode s.cfg w ≠ .instr i)) →
    step s = .next { s with schedule := rest, strobes := .response Flag.illegal 0 :: s.strobes }

/-- While a command is in progress the command port accepts nothing: no effect, not queued, not answered (R97). That a
program's word goes to that port when it is not an event's, a reserved opcode included, is the model's reading (R91, R95;
log entries 4 and 19): R97 and U14 say that a test program holds no command word at such a time. -/
def Obligations.BusyPortIgnoresEveryWord : Prop :=
  ∀ (s : State), s.fgBusy = true →
    (∀ (w : OpWord) (rest : List Input), s.cfg.wf = true →
      (s.schedule = .command w :: rest ∨ (s.schedule = .trace w :: rest ∧ isEventOpcode (opField w) = false)) →
      step s = .next { s with schedule := rest }) ∧
    (∀ i : Instr, i.isEvent = false → exec i s = .next s)

/-- Where no word is delivered a step is the foreground's: its turn, an ADC answer or the end of a delay; `await` keeps
waiting exactly as long as a command is in progress. `turn` and `await` are the model's own inputs (log entry 5). -/
def Obligations.ForegroundTakesItsTurn : Prop :=
  ∀ (s : State) (rest : List Input), s.cfg.wf = true →
    (s.schedule = [] → step s = .next s.turn) ∧
    (∀ p : Progress, s.schedule = p.input :: rest → step s = .next (p.run { s with schedule := rest })) ∧
    (s.schedule = .await :: rest → s.fgBusy = true → step s = .next s.turn) ∧
    (s.schedule = .await :: rest → s.fgBusy = false → step s = .next { s with schedule := rest })

/-- Reset in any state, a command in progress included, is one transition to the reset state; no response is given
(R241). That the rest of the schedule and the oracle stay is the model's choice (log entry 18). -/
def Obligations.ResetInputGivesTheResetState : Prop :=
  ∀ (s : State) (rest : List Input), s.cfg.wf = true → s.schedule = .rst :: rest →
    step s = .next { State.resetWith s.cfg with schedule := rest, oracle := s.oracle }

/-- Every value of R240's table, under every configuration. -/
def Obligations.ResetValuesAreThoseOfTheTable : Prop :=
  ∀ c : Cfg,
    (∀ n : Nat, n ≤ 22 → (State.resetWith c).readRegister n = some 0) ∧
    (State.resetWith c).windowReady = false ∧ (State.resetWith c).overflowFlag = false ∧
    (State.resetWith c).currentRangeIndex = 0 ∧ (State.resetWith c).freqSetting = 0 ∧
    (State.resetWith c).sourceMode = .off ∧ (State.resetWith c).adcCfg = ⟨0, 0⟩ ∧
    (State.resetWith c).fgBusy = false ∧ (State.resetWith c).pins.ldoEn = false ∧
    (State.resetWith c).pins.stepupEn = false ∧ (State.resetWith c).pins.quenchEn = false ∧
    (State.resetWith c).pins.dacEn = false ∧ (State.resetWith c).pins.rselEn = false ∧
    (State.resetWith c).pins.csampEn = false ∧ (State.resetWith c).pins.dacCode = 0 ∧
    (State.resetWith c).pins.rselId = 0 ∧ (State.resetWith c).strobes = []

/-- The invariant holds after reset, whatever the well-formed configuration. -/
def Obligations.ResetMeetsTheInvariant : Prop := ∀ c : Cfg, c.wf = true → (State.resetWith c).Inv

/-- Every step keeps the invariant: arbitration (R40), pins by mode (R192), the bounds of R25, R28, R31 to R34 and
R37, the ADC's channel at every servo sample (R69), and the busy bit (R43). -/
def Obligations.StepKeepsTheInvariant : Prop :=
  ∀ s t : State, s.Inv → step s = .next t → t.Inv

/-- The block runs on no ill-formed configuration (R7; U13). -/
def Obligations.IllFormedConfigurationIsRefused : Prop :=
  ∀ s : State, s.cfg.wf = false → step s = .refused .illFormedConfiguration

/-- The block never traps: on a well-formed configuration every step has a next state, except that an ill-formed
event word makes the trace itself refused (R210, R95 (b)). -/
def Obligations.StepAnswersNextUnlessTheTraceIsIllFormed : Prop :=
  ∀ s : State, s.cfg.wf = true → (∃ t : State, step s = .next t) ∨
    ∃ (w : OpWord) (rest : List Input) (op : U8), s.schedule = .trace w :: rest ∧
      decode s.cfg w = .reservedOperand op ∧ isEventOpcode op = true ∧ step s = .refused (.illFormedTrace w)

/-- No step changes the configuration (R49, R245). -/
def Obligations.ConfigurationNeverChanges : Prop :=
  ∀ s t : State, step s = .next t → t.cfg = s.cfg

/-! ## Events -/

/-- `CAPTURE` (R121): the whole next state, for both polarities. -/
def Obligations.CaptureAddsOrDiscards : Prop :=
  ∀ (s : State) (w : U32),
    encode (.captureF w) = makeWord 0x10#8 w ∧ encode (.captureR w) = makeWord 0x11#8 w ∧
    exec (.captureF w) s = .next (if s.overflowFlag then { s with overflowFlag := false }
      else { s with curFallAcc := s.curFallAcc + w, curFallCnt := s.curFallCnt + 1 }) ∧
    exec (.captureR w) s = .next (if s.overflowFlag then { s with overflowFlag := false }
      else { s with curRiseAcc := s.curRiseAcc + w, curRiseCnt := s.curRiseCnt + 1 })

/-- `CAPOVF` (R122): the whole next state. -/
def Obligations.CapovfSetsTheFlagAndCounts : Prop :=
  ∀ s : State, encode .capovf = makeWord 0x12#8 0 ∧
    exec .capovf s =
      .next { s with overflowFlag := true, consecutiveOverflowCount := s.consecutiveOverflowCount + 1 }

/-- `WINCLOSE raw` (R123): the whole next state. -/
def Obligations.WincloseLatchesTheWindow : Prop :=
  ∀ (s : State) (raw : U32), encode (.winclose raw) = makeWord 0x13#8 raw ∧
    exec (.winclose raw) s = .next { s with
      oscFreqCnt := BitVec.ofNat 32 (if raw < s.prevRawCount
        then raw.toNat + 2 ^ s.cfg.counterBits - s.prevRawCount.toNat else raw.toNat - s.prevRawCount.toNat)
      prevRawCount := raw
      lastRiseAcc := s.curRiseAcc
      lastFallAcc := s.curFallAcc
      lastRiseCnt := s.curRiseCnt
      lastFallCnt := s.curFallCnt
      curRiseAcc := 0
      curFallAcc := 0
      curRiseCnt := 0
      curFallCnt := 0
      consecutiveOverflowCount := 0
      windowReady := true }

/-- R125: if the counter advanced by `edges` in the window, `oscFreqCnt` is `edges` modulo `2^COUNTER_BITS`, whatever
the number of wraparounds; in particular it is exact below one wrap. -/
def Obligations.WindowCountIsTheEdgesModuloTheCounter : Prop :=
  ∀ (s : State) (edges : Nat), s.cfg.wf = true → FitsIn s.cfg.counterBits s.prevRawCount →
    ∃ t : State, exec (.winclose (s.rawAfter edges)) s = .next t ∧
      t.oscFreqCnt.toNat = edges % 2 ^ s.cfg.counterBits

/-- R122 (a), R126: after any number of overflows in a row exactly one capture is discarded, and the next one
counts. -/
def Obligations.OverflowsDiscardExactlyOneCapture : Prop :=
  ∀ (s : State) (k : Nat) (i : Instr) (w w' : U32), s.cfg.wf = true → (i = .captureF w ∨ i = .captureR w) →
    i.wf s.cfg = true → FitsIn s.cfg.captureBits w' →
    Host.Core.run core (k + 3)
      { s with schedule := List.replicate (k + 1) (.trace (encode .capovf)) ++
          [.trace (encode i), .trace (encode (.captureR w'))] } =
    .next { s with
      schedule := []
      overflowFlag := false
      consecutiveOverflowCount := s.consecutiveOverflowCount + BitVec.ofNat 32 (k + 1)
      curRiseAcc := s.curRiseAcc + w'
      curRiseCnt := s.curRiseCnt + 1 }

/-- The frame of the events: the range controller's, the servo's and the current mode's registers, every pin, the
sequencer and the ports are as before (R48, R217). -/
def Obligations.EventsChangeOnlyTheAccumulator : Prop :=
  ∀ (s : State) (i : Instr), i.isEvent = true →
    ∃ t : State, exec i s = .next t ∧ SameRange s t ∧ SameServo s t ∧ SameCurrent s t ∧ SameForeground s t

/-! ## Capacitance range controller -/

/-- `CAP.ENTER` (R141). In range: the atomic group, then the mux pins, then the response; out of range: `ILLEGAL` at
once. Nothing else changes. -/
def Obligations.CapEnterZeroesAndSelectsOrRefuses : Prop :=
  ∀ (s : State) (k : U8), s.Idle →
    encode (.capEnter k) = makeWord 0x20#8 (k.setWidth 32) ∧
    (s.cfg.numFreqSettings ≤ k.toNat →
      exec (.capEnter k) s = .next { s with strobes := .response Flag.illegal 0 :: s.strobes }) ∧
    (k.toNat < s.cfg.numFreqSettings → ∃ t : State,
      exec (.capEnter k) s = .next t ∧
      t = { s with
        curRiseAcc := 0, curFallAcc := 0, curRiseCnt := 0, curFallCnt := 0, windowReady := false
        consecutiveOutOfBandCount := 0, freqSetting := k.toNat, fgBusy := true, seq := .capEnterMux } ∧
      t.turns 2 = { s with
        curRiseAcc := 0, curFallAcc := 0, curRiseCnt := 0, curFallCnt := 0, windowReady := false
        consecutiveOutOfBandCount := 0, freqSetting := k.toNat
        pins := { s.pins with rselId := s.cfg.rangeId s.currentRangeIndex, rselEn := true }
        strobes := .response 0 0 :: s.strobes })

/-- `CAP.EXIT` (R146): one pin, then the response; nothing else changes. -/
def Obligations.CapExitDisablesTheMux : Prop :=
  ∀ s : State, s.Idle → encode .capExit = makeWord 0x21#8 0 ∧
    ∃ t : State, exec .capExit s = .next t ∧
      t = { s with pins := { s.pins with rselEn := false }, fgBusy := true, seq := .respond 0 0 } ∧
      t.turns 1 = { s with pins := { s.pins with rselEn := false }, strobes := .response 0 0 :: s.strobes }

/-- `RANGE.POLL` with no ready window (R142 (a)): nothing is written and nothing is emitted even if `v = 1`. -/
def Obligations.RangePollWithoutWindowIsANoop : Prop :=
  ∀ (s : State) (v : Bool), s.Idle → s.windowReady = false →
    encode (.rangePoll v) = makeWord 0x22#8 (if v then 1 else 0) ∧
    ∃ t : State, exec (.rangePoll v) s = .next t ∧
      t = { s with fgBusy := true, seq := .respond Flag.noop 0 } ∧
      t.turns 1 = { s with strobes := .response Flag.noop 0 :: s.strobes }

/-- `RANGE.POLL` on a window above the high bound, not at the highest range (R144): the counter, and once it exceeds
the threshold the move up; with `v`, the report of R72 with the index after the move (R148); the estimate of R143 is
the response's value. -/
def Obligations.RangePollTooFastCountsOrMovesUp : Prop :=
  ∀ (s : State) (v : Bool) (f : U32), s.Idle → s.windowReady = true →
    f = s.oscFreqCnt <<< s.cfg.freqShift s.freqSetting →
    s.cfg.freqHighBound < f → s.currentRangeIndex + 1 < s.cfg.numRanges →
    encode (.rangePoll v) = makeWord 0x22#8 (if v then 1 else 0) ∧
    ∃ (t : State) (moves : Bool) (idx : Nat) (ports : List Strobe),
      exec (.rangePoll v) s = .next t ∧
      moves = decide (s.cfg.hystThreshold < s.consecutiveOutOfBandCount + 1) ∧
      idx = (if moves then s.currentRangeIndex + 1 else s.currentRangeIndex) ∧
      ports = (if v then .report ⟨number32 s.freqSetting, s.lastFallAcc, s.oscFreqCnt,
        s.cfg.rangeHalfValue idx, s.cfg.calThreshold1, s.cfg.calThreshold2⟩ :: s.strobes else s.strobes) ∧
      t.turns 1 = { s with
        windowReady := false
        consecutiveOverflowCount := 0
        consecutiveOutOfBandCount := if moves then 0 else s.consecutiveOutOfBandCount + 1
        currentRangeIndex := idx
        pins := if moves then { s.pins with rselId := s.cfg.rangeId idx, rselEn := true } else s.pins
        strobes := .response ((if moves then Flag.rangeUp else 0) ||| (if v then Flag.report else 0)) f :: ports }

/-- `RANGE.POLL` on a window below the low bound, not at the lowest range (R145): the symmetric treatment. -/
def Obligations.RangePollTooSlowCountsOrMovesDown : Prop :=
  ∀ (s : State) (v : Bool) (f : U32), s.cfg.wf = true → s.Idle → s.windowReady = true →
    f = s.oscFreqCnt <<< s.cfg.freqShift s.freqSetting →
    f < s.cfg.freqLowBound → 0 < s.currentRangeIndex →
    encode (.rangePoll v) = makeWord 0x22#8 (if v then 1 else 0) ∧
    ∃ (t : State) (moves : Bool) (idx : Nat) (ports : List Strobe),
      exec (.rangePoll v) s = .next t ∧
      moves = decide (s.cfg.hystThreshold < s.consecutiveOutOfBandCount + 1) ∧
      idx = (if moves then s.currentRangeIndex - 1 else s.currentRangeIndex) ∧
      ports = (if v then .report ⟨number32 s.freqSetting, s.lastFallAcc, s.oscFreqCnt,
        s.cfg.rangeHalfValue idx, s.cfg.calThreshold1, s.cfg.calThreshold2⟩ :: s.strobes else s.strobes) ∧
      t.turns 1 = { s with
        windowReady := false
        consecutiveOverflowCount := 0
        consecutiveOutOfBandCount := if moves then 0 else s.consecutiveOutOfBandCount + 1
        currentRangeIndex := idx
        pins := if moves then { s.pins with rselId := s.cfg.rangeId idx, rselEn := true } else s.pins
        strobes := .response ((if moves then Flag.rangeDown else 0) ||| (if v then Flag.report else 0)) f :: ports }

/-- `RANGE.POLL` in R147's three other cases: in band, too fast at the highest range, too slow at the lowest. The
counter is zeroed and the range kept. -/
def Obligations.RangePollOtherwiseZeroesTheCounter : Prop :=
  ∀ (s : State) (v : Bool) (f : U32), s.cfg.wf = true → s.Idle → s.windowReady = true →
    f = s.oscFreqCnt <<< s.cfg.freqShift s.freqSetting →
    ((s.cfg.freqLowBound ≤ f ∧ f ≤ s.cfg.freqHighBound) ∨
      (s.cfg.freqHighBound < f ∧ s.currentRangeIndex = s.cfg.numRanges - 1) ∨
      (f < s.cfg.freqLowBound ∧ s.currentRangeIndex = 0)) →
    encode (.rangePoll v) = makeWord 0x22#8 (if v then 1 else 0) ∧
    ∃ (t : State) (ports : List Strobe),
      exec (.rangePoll v) s = .next t ∧
      ports = (if v then .report ⟨number32 s.freqSetting, s.lastFallAcc, s.oscFreqCnt,
        s.cfg.rangeHalfValue s.currentRangeIndex, s.cfg.calThreshold1, s.cfg.calThreshold2⟩ :: s.strobes
        else s.strobes) ∧
      t.turns 1 = { s with
        windowReady := false
        consecutiveOverflowCount := 0
        consecutiveOutOfBandCount := 0
        strobes := .response (if v then Flag.report else 0) f :: ports }

/-- R150: the index changes only after the count strictly exceeds the threshold, and by one step at most; under the
invariant that is the window counted at the threshold exactly. No other operation changes it. -/
def Obligations.RangeMovesOneStepAndOnlyPastTheThreshold : Prop :=
  ∀ (s t : State) (i : Instr), s.Inv → exec i s = .next t → t.currentRangeIndex ≠ s.currentRangeIndex →
    (∃ v : Bool, i = .rangePoll v) ∧ s.windowReady = true ∧ t.windowReady = false ∧
    s.consecutiveOutOfBandCount = s.cfg.hystThreshold ∧ t.consecutiveOutOfBandCount = 0 ∧
    t.currentRangeIndex < s.cfg.numRanges ∧
    (t.currentRangeIndex = s.currentRangeIndex + 1 ∨ t.currentRangeIndex + 1 = s.currentRangeIndex)

/-- The scenario of R150, from any range but the highest: `k` windows above the high bound, each polled, the windows,
polls and responses being steps of the machine. After `threshold + 1` of them, and not before, the index has moved,
exactly once. -/
def Obligations.HighWindowsMoveTheRangeExactlyOnce : Prop :=
  ∀ (s : State) (edges k : Nat), s.Inv → s.Idle → s.consecutiveOutOfBandCount = 0 →
    edges < 2 ^ s.cfg.counterBits →
    s.cfg.freqHighBound < (BitVec.ofNat 32 edges) <<< s.cfg.freqShift s.freqSetting →
    s.currentRangeIndex + 1 < s.cfg.numRanges → k ≤ s.cfg.hystThreshold.toNat + 1 →
    ∃ t : State, State.PolledWindows edges k s t ∧ t.Idle ∧
      (k ≤ s.cfg.hystThreshold.toNat →
        t.currentRangeIndex = s.currentRangeIndex ∧ t.consecutiveOutOfBandCount = BitVec.ofNat 32 k) ∧
      (k = s.cfg.hystThreshold.toNat + 1 →
        t.currentRangeIndex = s.currentRangeIndex + 1 ∧ t.consecutiveOutOfBandCount = 0)

/-- R79: `windowReady` is set by `WINCLOSE` alone, and a poll that acts leaves it clear; so between two window closes
at most one poll finds a ready window. -/
def Obligations.AWindowIsConsumedAtMostOnce : Prop :=
  (∀ s t : State, step s = .next t → s.windowReady = false → t.windowReady = true →
    ∃ (w : OpWord) (rest : List Input) (raw : U32),
      s.schedule = .trace w :: rest ∧ decode s.cfg w = .instr (.winclose raw)) ∧
  (∀ (s : State) (v : Bool), s.fgBusy = false →
    ∃ t : State, exec (.rangePoll v) s = .next t ∧ t.windowReady = false)

/-! ## Current mode -/

/-- `CUR.ENTER g` (R161): gain and amplifier, then the ADC, then the response. The ADC is not asked again when it is
already so configured (R68). -/
def Obligations.CurEnterConfiguresTheChain : Prop :=
  ∀ (s : State) (g : U8), s.Idle → encode (.curEnter g) = makeWord 0x30#8 (g.setWidth 32) ∧
    ∃ t : State, exec (.curEnter g) s = .next t ∧
      t = { s with
        curGain := g, pins := { s.pins with csampEn := true }, fgBusy := true, seq := .curEnterConfigure g } ∧
      t.turns 2 = { s with
        curGain := g
        pins := { s.pins with csampEn := true }
        adcCfg := ⟨s.cfg.currentCh, g⟩
        strobes := .response 0 0 :: (if s.adcCfg = ⟨s.cfg.currentCh, g⟩ then s.strobes
          else .adcConfigure s.cfg.currentCh g true :: s.strobes) }

/-- `CUR.READ a` (R162): the ADC pointed back where needed, one averaged sample, and the raw code in the response. -/
def Obligations.CurReadSamplesOnce : Prop :=
  ∀ (s : State) (a : U8), s.Idle → encode (.curRead a) = makeWord 0x31#8 (a.setWidth 32) ∧
    ∃ (t : State) (ports : List Strobe),
      exec (.curRead a) s = .next t ∧
      ports = (if s.adcCfg = ⟨s.cfg.currentCh, s.curGain⟩ then s.strobes
        else .adcConfigure s.cfg.currentCh s.curGain true :: s.strobes) ∧
      t = { s with
        adcCfg := ⟨s.cfg.currentCh, s.curGain⟩, strobes := ports, fgBusy := true, seq := .sample (.curRead a) } ∧
      t.turns 3 = { s with
        adcCfg := ⟨s.cfg.currentCh, s.curGain⟩
        oracle := s.oracle.advance
        strobes := .response 0 (s.oracle.answer.setWidth 32) :: .adcAverage s.cfg.currentCh a :: ports }

/-- `CUR.EXIT` (R163): one pin, then the response; nothing else changes. -/
def Obligations.CurExitTurnsTheAmplifierOff : Prop :=
  ∀ s : State, s.Idle → encode .curExit = makeWord 0x32#8 0 ∧
    ∃ t : State, exec .curExit s = .next t ∧
      t = { s with pins := { s.pins with csampEn := false }, fgBusy := true, seq := .respond 0 0 } ∧
      t.turns 1 = { s with pins := { s.pins with csampEn := false }, strobes := .response 0 0 :: s.strobes }

/-! ## Bias servo -/

/-- `VBIAS.ENABLE mv` on a supply that is off (R172): the reset phase with the DAC write, `enableLdo()`, the soft
start with its two transitions; the next transition is what `VBIAS.UPDATE mv` gives as a command of its own, from there
on. -/
def Obligations.VbiasEnableResetsThenUpdates : Prop :=
  ∀ (s : State) (mv : U16), s.Idle → s.sourceMode = .off →
    encode (.vbiasEnable mv) = makeWord 0x40#8 (mv.setWidth 32) ∧
    ∃ t : State, exec (.vbiasEnable mv) s = .next t ∧
      t = { s with
        requestedVoltageMv := s.cfg.vbiasMinMv
        lastMeasuredVoltageMv := s.cfg.vbiasMinMv
        dacCode := s.cfg.dacMax
        pins := { s.pins with dacCode := s.cfg.dacMax, dacEn := true }
        fgBusy := true
        seq := .enableLdo mv } ∧
      t.turns 3 = { t with
        pins := { s.pins with dacCode := s.cfg.dacMax, dacEn := true, ldoEn := true }
        sourceMode := .ldoRegulated
        strobes := delayRequest s.cfg.tSoftstart :: s.strobes
        seq := .enableUpdate mv } ∧
      exec (.vbiasUpdate mv) { t.turns 3 with fgBusy := false, seq := .idle } = .next (t.turns 4)

/-- `VBIAS.ENABLE` on a supply that is on, and `VBIAS.UPDATE` on one that is off, are refused and change nothing
(R171, R173). -/
def Obligations.ServoPreconditionsRefuse : Prop :=
  ∀ (s : State) (mv : U16), s.Idle →
    (s.sourceMode ≠ .off →
      exec (.vbiasEnable mv) s = .next { s with strobes := .response Flag.illegal 0 :: s.strobes }) ∧
    (s.sourceMode = .off →
      exec (.vbiasUpdate mv) s = .next { s with strobes := .response Flag.illegal 0 :: s.strobes })

/-- `VBIAS.UPDATE` with the target already set (R176): the last measurement is returned and no register, pin or ADC
is touched. -/
def Obligations.VbiasUpdateRepeatIsANoop : Prop :=
  ∀ s : State, s.Idle → s.sourceMode ≠ .off → s.cfg.vbiasMinMv ≤ s.requestedVoltageMv →
    exec (.vbiasUpdate s.requestedVoltageMv) s =
      .next { s with strobes := .response Flag.noop (s.lastMeasuredVoltageMv.setWidth 32) :: s.strobes }

/-- `VBIAS.UPDATE` below the minimum (R175): the quench pin is written, and the next transition goes on with the
minimum as target and `CLAMPED` set, ending at once when the minimum is already requested. -/
def Obligations.VbiasUpdateClampsToTheMinimum : Prop :=
  ∀ (s : State) (mv : U16), s.Idle → s.sourceMode ≠ .off → mv < s.cfg.vbiasMinMv →
    ∃ t : State, exec (.vbiasUpdate mv) s = .next t ∧
      t = { s with pins := { s.pins with quenchEn := false }, fgBusy := true, seq := .updateClamped } ∧
      (s.requestedVoltageMv = s.cfg.vbiasMinMv →
        t.turns 1 = { s with
          pins := { s.pins with quenchEn := false }
          strobes := .response (Flag.clamped ||| Flag.noop) (s.lastMeasuredVoltageMv.setWidth 32) :: s.strobes }) ∧
      (s.requestedVoltageMv ≠ s.cfg.vbiasMinMv →
        t.turns 1 = { s with
          pins := { s.pins with quenchEn := false }
          fgBusy := true
          adcCfg := ⟨s.cfg.vbiasCh, s.cfg.vbiasGain⟩
          strobes := if s.adcCfg = ⟨s.cfg.vbiasCh, s.cfg.vbiasGain⟩ then s.strobes
            else .adcConfigure s.cfg.vbiasCh s.cfg.vbiasGain true :: s.strobes
          seq := if s.cfg.vbiasMinMv < s.requestedVoltageMv
            then .decEntry ⟨s.cfg.vbiasMinMv, s.lastMeasuredVoltageMv, false, true, Flag.clamped⟩
            else .incEntry ⟨s.cfg.vbiasMinMv, s.lastMeasuredVoltageMv, false, true, Flag.clamped⟩ })

/-- `VBIAS.UPDATE` to a new target (R174): the ADC is pointed at the bias channel (R69), the locals are set, and the
direction comes from the recorded request. -/
def Obligations.VbiasUpdateStartsASearch : Prop :=
  ∀ (s : State) (mv : U16), s.Idle → s.sourceMode ≠ .off → s.cfg.vbiasMinMv ≤ mv → mv ≠ s.requestedVoltageMv →
    encode (.vbiasUpdate mv) = makeWord 0x41#8 (mv.setWidth 32) ∧
    exec (.vbiasUpdate mv) s = .next { s with
      fgBusy := true
      adcCfg := ⟨s.cfg.vbiasCh, s.cfg.vbiasGain⟩
      strobes := if s.adcCfg = ⟨s.cfg.vbiasCh, s.cfg.vbiasGain⟩ then s.strobes
        else .adcConfigure s.cfg.vbiasCh s.cfg.vbiasGain true :: s.strobes
      seq := if mv < s.requestedVoltageMv then .decEntry ⟨mv, s.lastMeasuredVoltageMv, false, true, 0⟩
        else .incEntry ⟨mv, s.lastMeasuredVoltageMv, false, true, 0⟩ }

/-- The source switches of R177 and R180: exactly when the activation threshold is crossed, and then the pin, the
mode and the delay; `O.ldo_en` and the DAC code are not written. -/
def Obligations.SourceSwitchesAtTheActivationThreshold : Prop :=
  ∀ (s : State) (l : Search),
    (s.seq = .decEntry l → s.cfg.stepupThresholdMv ≤ s.requestedVoltageMv → l.t < s.cfg.stepupThresholdMv →
      s.turns 3 = { s with
        pins := { s.pins with stepupEn := false }
        sourceMode := .ldoRegulated
        strobes := delayRequest s.cfg.tStepupOff :: s.strobes
        seq := .decLoop l }) ∧
    (s.seq = .incEntry l → s.requestedVoltageMv < s.cfg.stepupThresholdMv → s.cfg.stepupThresholdMv ≤ l.t →
      s.turns 3 = { s with
        pins := { s.pins with stepupEn := true }
        sourceMode := .stepUpConverter
        strobes := delayRequest s.cfg.tStepupOn :: s.strobes
        seq := .incLoop l }) ∧
    (s.seq = .decEntry l → ¬ (s.cfg.stepupThresholdMv ≤ s.requestedVoltageMv ∧ l.t < s.cfg.stepupThresholdMv) →
      s.turn = { s with seq := .decLoop l }.turn) ∧
    (s.seq = .incEntry l → ¬ (s.requestedVoltageMv < s.cfg.stepupThresholdMv ∧ s.cfg.stepupThresholdMv ≤ l.t) →
      s.turn = { s with seq := .incLoop l }.turn)

/-- One iteration of the decreasing search (R178): step, delay, sample, test; the settings of the sample follow
`fine`, and `fine` is made afresh from the sample. -/
def Obligations.DecreasingSearchIteration : Prop :=
  ∀ (s : State) (l : Search) (m : U16), s.seq = .decLoop l → s.dacCode < s.cfg.dacMax →
    m = s.cfg.mvOf s.oracle.answer →
    s.turns 5 = { s with
      dacCode := s.dacCode + 1
      pins := { s.pins with dacCode := s.dacCode + 1, dacEn := true }
      oracle := s.oracle.advance
      strobes := .adcStabilized (if l.fine then s.cfg.decFine else s.cfg.decCoarse) ::
        delayRequest s.cfg.tDacStep :: s.strobes
      seq := if m.toNat ≤ l.t.toNat then .searchDone ⟨l.t, m, l.fine, false, l.flags⟩
        else .decLoop ⟨l.t, m, decide (m.toNat - l.t.toNat ≤ s.cfg.proximityBandMv.toNat), l.sat, l.flags⟩ }

/-- One iteration of the increasing search (R181, R182): when `fine` is set there is one more delay and the averaged
sample; the acceptance is one-sided and its sum the mathematical one. -/
def Obligations.IncreasingSearchIteration : Prop :=
  ∀ (s : State) (l : Search) (m : U16), s.seq = .incLoop l → 0 < s.dacCode → m = s.cfg.mvOf s.oracle.answer →
    s.turns (if l.fine then 7 else 5) = { s with
      dacCode := s.dacCode - 1
      pins := { s.pins with dacCode := s.dacCode - 1, dacEn := true }
      oracle := s.oracle.advance
      strobes := if l.fine
        then .adcAverage s.cfg.vbiasCh s.cfg.incFineAvgShift :: delayRequest s.cfg.tFineSettle ::
          delayRequest s.cfg.tDacStep :: s.strobes
        else .adcStabilized s.cfg.incCoarse :: delayRequest s.cfg.tDacStep :: s.strobes
      seq := if l.t.toNat ≤ m.toNat + s.cfg.overshootAllowanceMv.toNat
        then .searchDone ⟨l.t, m, l.fine, false, l.flags⟩
        else .incLoop ⟨l.t, m, decide (l.t.toNat - m.toNat ≤ s.cfg.proximityBandMv.toNat), l.sat, l.flags⟩ }

/-- The end of a search (R183): accepted, or at the DAC's bound with no further step and no sample (R178 (a), (e)).
The request is recorded either way, and `SATURATED` is set exactly when `sat` is. -/
def Obligations.SearchEndRecordsAndResponds : Prop :=
  ∀ (s : State) (l : Search),
    (s.seq = .searchDone l ∨ (s.seq = .decLoop l ∧ s.cfg.dacMax ≤ s.dacCode) ∨
      (s.seq = .incLoop l ∧ s.dacCode = 0)) →
    s.turn = { s with
      requestedVoltageMv := l.t
      lastMeasuredVoltageMv := l.m
      fgBusy := false
      seq := .idle
      strobes := .response (if l.sat then l.flags ||| Flag.saturated else l.flags) (l.m.setWidth 32) :: s.strobes }

/-- R184: `VBIAS.UPDATE` and `VBIAS.ENABLE` always end, whatever the oracle answers: within a bounded number of
foreground transitions, with one response, and after at most `DAC_MAX` samples. A command that is not refused leaves
the clamped target recorded (R175, R183), the source that R40 gives for it active, and the last measurement as the
response's value (R100). -/
def Obligations.UpdateAndEnableAlwaysEnd : Prop :=
  ∀ (s : State) (mv target : U16), s.Inv → s.Idle →
    target = (if mv < s.cfg.vbiasMinMv then s.cfg.vbiasMinMv else mv) →
    (∃ (t u : State) (n : Nat), exec (.vbiasUpdate mv) s = .next t ∧ u = t.turns n ∧
      n ≤ 7 * s.cfg.dacMax.toNat + 5 ∧ u.Idle ∧ u.responseCount = s.responseCount + 1 ∧
      u.sampleCount ≤ s.sampleCount + s.cfg.dacMax.toNat ∧
      (s.sourceMode ≠ .off → u.requestedVoltageMv = target ∧ u.sourceMode = s.cfg.sourceFor target ∧
        ∃ f : U8, u.strobes.head? = some (.response f (u.lastMeasuredVoltageMv.setWidth 32)))) ∧
    (∃ (t u : State) (n : Nat), exec (.vbiasEnable mv) s = .next t ∧ u = t.turns n ∧
      n ≤ 7 * s.cfg.dacMax.toNat + 9 ∧ u.Idle ∧ u.responseCount = s.responseCount + 1 ∧
      u.sampleCount ≤ s.sampleCount + s.cfg.dacMax.toNat ∧
      (s.sourceMode = .off → u.requestedVoltageMv = target ∧ u.sourceMode = s.cfg.sourceFor target ∧
        ∃ f : U8, u.strobes.head? = some (.response f (u.lastMeasuredVoltageMv.setWidth 32))))

/-- `VBIAS.DISABLE` when the oracle answers under the threshold after `n` answers that are not (R185): the first
micro-step, and the state after the response (R186). The premise on the oracle is the one R187 asks for; it covers every
oracle under which the command ends. -/
def Obligations.VbiasDisableQuenchesAndEnds : Prop :=
  ∀ (s : State) (n : Nat) (m : U16), s.Idle →
    (∀ k : Nat, k < n → s.cfg.quenchThresholdMv ≤ s.cfg.mvOf (s.oracle.after k).answer) →
    m = s.cfg.mvOf (s.oracle.after n).answer → m < s.cfg.quenchThresholdMv →
    encode .vbiasDisable = makeWord 0x42#8 0 ∧
    ∃ t : State, exec .vbiasDisable s = .next t ∧
      t = { s with
        pins := { s.pins with stepupEn := false, ldoEn := false, dacEn := false }
        sourceMode := .off, fgBusy := true, seq := .disQuench } ∧
      t.turns (2 * n + 6) = { s with
        pins := { s.pins with stepupEn := false, ldoEn := false, dacEn := false, quenchEn := false }
        sourceMode := .off
        adcCfg := ⟨s.cfg.vbiasCh, s.cfg.vbiasGain⟩
        lastMeasuredVoltageMv := m
        requestedVoltageMv := 0
        oracle := s.oracle.after (n + 1)
        strobes := .response 0 (m.setWidth 32) ::
          (List.replicate (n + 1) (.adcAverage s.cfg.vbiasCh s.cfg.quenchAvgShift) ++
            (if s.adcCfg = ⟨s.cfg.vbiasCh, s.cfg.vbiasGain⟩ then s.strobes
              else .adcConfigure s.cfg.vbiasCh s.cfg.vbiasGain true :: s.strobes)) }

/-- R187: the wait has no bound. While no answer is under the threshold, from the oracle or on the port, the command
never ends, whatever else the environment does short of reset: after any number of steps the block is busy, the quench
pin is on, and nothing has been answered, so no further command was accepted; and every step was taken, events
included. -/
def Obligations.VbiasDisableCanWaitForEver : Prop :=
  ∀ (s : State) (k : Nat), s.cfg.wf = true → s.fgBusy = true →
    (s.seq = .sample .quench ∨ s.seq = .answer .quench) → s.pins.quenchEn = true →
    (∀ j : Nat, s.cfg.quenchThresholdMv ≤ s.cfg.mvOf (s.oracle.after j).answer) →
    (∀ x ∈ s.schedule, x.LeavesWaiting s.cfg) →
    ∃ t : State, Host.Core.run core k s = .next t ∧ t.fgBusy = true ∧
      (t.seq = .sample .quench ∨ t.seq = .answer .quench) ∧
      t.pins.quenchEn = true ∧ t.responseCount = s.responseCount

/-- R40 and R192 in every state that meets the invariant, between servo commands. -/
def Obligations.ArbitrationAndPinsBetweenCommands : Prop :=
  ∀ s : State, s.Inv → s.seq.isServo = false →
    (s.sourceMode ≠ .off →
      (s.sourceMode = .ldoRegulated ↔ s.requestedVoltageMv < s.cfg.stepupThresholdMv) ∧
      (s.sourceMode = .stepUpConverter ↔ s.cfg.stepupThresholdMv ≤ s.requestedVoltageMv)) ∧
    (s.sourceMode = .off → s.pins.ldoEn = false ∧ s.pins.stepupEn = false ∧ s.pins.dacEn = false ∧
      s.pins.quenchEn = false) ∧
    (s.sourceMode = .ldoRegulated → s.pins.ldoEn = true ∧ s.pins.stepupEn = false ∧ s.pins.dacEn = true ∧
      s.pins.quenchEn = false) ∧
    (s.sourceMode = .stepUpConverter → s.pins.ldoEn = true ∧ s.pins.stepupEn = true ∧ s.pins.dacEn = true ∧
      s.pins.quenchEn = false)

/-! ## Register read -/

/-- `RDREG n` (R200, R201). For an assigned number: one read, no side effect, then the response. A reserved number,
or a word with any of operand bits 31:8 set, is answered `ILLEGAL` and changes nothing. -/
def Obligations.RdregReadsOrRefuses : Prop :=
  ∀ (s : State) (n : U8), s.Idle → encode (.rdreg n) = makeWord 0x50#8 (n.setWidth 32) ∧
    (n.toNat ≤ 22 → ∃ (t : State) (v : U32), s.readRegister n.toNat = some v ∧ exec (.rdreg n) s = .next t ∧
      t = { s with fgBusy := true, seq := .respond 0 v } ∧
      t.turns 1 = { s with strobes := .response 0 v :: s.strobes }) ∧
    (23 ≤ n.toNat → exec (.rdreg n) s = .next { s with strobes := .response Flag.illegal 0 :: s.strobes }) ∧
    (∀ (w : OpWord) (rest : List Input), s.cfg.wf = true → s.schedule = .command w :: rest → opField w = 0x50#8 →
      256 ≤ (operandField w).toNat →
      step s = .next { s with schedule := rest, strobes := .response Flag.illegal 0 :: s.strobes })

/-- The fields of the composite registers 10, 18, 19 and 21, bit by bit, with the upper bits reading zero (R50). -/
def Obligations.CompositeRegistersHaveTheirFields : Prop :=
  ∀ s : State,
    (∃ v : U32, s.readRegister 10 = some v ∧ v.getLsbD 0 = s.windowReady ∧ v.getLsbD 1 = s.overflowFlag ∧
      v.toNat < 2 ^ 2) ∧
    (∃ v : U32, s.readRegister 18 = some v ∧ (v = 0 ↔ s.sourceMode = .off) ∧ (v = 1 ↔ s.sourceMode = .ldoRegulated) ∧
      (v = 2 ↔ s.sourceMode = .stepUpConverter)) ∧
    (∃ v : U32, s.readRegister 19 = some v ∧ v.getLsbD 0 = s.pins.ldoEn ∧ v.getLsbD 1 = s.pins.stepupEn ∧
      v.getLsbD 2 = s.pins.quenchEn ∧ v.getLsbD 3 = s.pins.dacEn ∧ v.getLsbD 4 = s.pins.rselEn ∧
      v.getLsbD 5 = s.pins.csampEn ∧ v.toNat < 2 ^ 6) ∧
    (∃ v : U32, s.readRegister 21 = some v ∧ v.extractLsb' 0 2 = s.adcCfg.ch ∧ v.extractLsb' 2 8 = s.adcCfg.gain ∧
      v.toNat < 2 ^ 10)

/-! ## Whole-machine rules -/

/-- R84: an event commutes with every foreground transition of a servo or current-mode command: the one at acceptance,
those at each later position, the responses and the answers that are awaited included; so no final state of theirs
depends on how events interleave. -/
def Obligations.EventsCommuteWithServoAndCurrentSteps : Prop :=
  ∀ (s : State) (i : Instr), i.isEvent = true →
    (s.seq.isServo = true ∨ s.seq.isCurrent = true ∨ (∃ (f : U8) (v : U32), s.seq = .respond f v) →
      ∀ p : Progress, ∃ t : State, exec i s = .next t ∧ exec i (p.run s) = .next (p.run t)) ∧
    (∀ j : Instr, (j.opcode = 0x30#8 ∨ j.opcode = 0x31#8 ∨ j.opcode = 0x32#8 ∨ j.opcode = 0x40#8 ∨
        j.opcode = 0x41#8 ∨ j.opcode = 0x42#8) →
      ∃ a b t : State, exec i s = .next a ∧ exec j s = .next b ∧ exec i b = .next t ∧ exec j a = .next t)

/-- R98: a command ends with exactly one response. A foreground transition of a command in progress gives one response
if it ends the command and none otherwise, and so does the acceptance of a command. -/
def Obligations.EveryCommandEndsWithOneResponse : Prop :=
  ∀ s : State, s.Inv →
    (∀ p : Progress, s.fgBusy = true →
      (p.run s).responseCount = s.responseCount + (if (p.run s).fgBusy then 0 else 1)) ∧
    (∀ i : Instr, s.fgBusy = false → i.isEvent = false →
      ∃ t : State, exec i s = .next t ∧ t.responseCount = s.responseCount + (if t.fgBusy then 0 else 1))

/-- The foreground side of R48 for the accumulator: a foreground transition after acceptance writes no register an event
writes, and no command but `CAP.ENTER` and `RANGE.POLL` does at acceptance. -/
def Obligations.ForegroundLeavesTheAccumulator : Prop :=
  (∀ (s : State) (p : Progress), SameAcc s (p.run s)) ∧
  (∀ (s : State) (i : Instr), i.isEvent = false → (∀ k : U8, i ≠ .capEnter k) → (∀ v : Bool, i ≠ .rangePoll v) →
    ∃ t : State, exec i s = .next t ∧ SameAcc s t)

/-- The servo's registers and pins are 'mutated only by the servo loop' (R41): no event, no `CAP`, `RANGE`, `CUR` or
`RDREG` command writes one, at acceptance or later. -/
def Obligations.OnlyServoCommandsWriteServoState : Prop :=
  (∀ (s : State) (p : Progress), s.seq.isServo = false → SameServo s (p.run s)) ∧
  (∀ (s : State) (i : Instr), (∀ mv : U16, i ≠ .vbiasEnable mv) → (∀ mv : U16, i ≠ .vbiasUpdate mv) →
    i ≠ .vbiasDisable → ∃ t : State, exec i s = .next t ∧ SameServo s t)

/-- The frame of the servo and of the current mode: their transitions leave the range controller's registers and mux
pins; the servo leaves the current mode's, and the current mode leaves the servo's (R48, R46). -/
def Obligations.ServoAndCurrentFrames : Prop :=
  (∀ (s : State) (p : Progress), s.seq.isServo = true → SameRange s (p.run s) ∧ SameCurrent s (p.run s)) ∧
  (∀ (s : State) (p : Progress), s.seq.isCurrent = true → SameRange s (p.run s) ∧ SameServo s (p.run s)) ∧
  (∀ (s : State) (i : Instr), (i.opcode = 0x40#8 ∨ i.opcode = 0x41#8 ∨ i.opcode = 0x42#8) →
    ∃ t : State, exec i s = .next t ∧ SameRange s t ∧ SameCurrent s t ∧ SameAcc s t) ∧
  (∀ (s : State) (i : Instr), (i.opcode = 0x30#8 ∨ i.opcode = 0x31#8 ∨ i.opcode = 0x32#8) →
    ∃ t : State, exec i s = .next t ∧ SameRange s t ∧ SameServo s t ∧ SameAcc s t)

/-! ## Registers, samples and delays -/

/-- The other numbers of R50's table, each its own register zero-extended, and none past 22. An index or a setting that
32 bits do not hold reads as a free value (log entry 16). -/
def Obligations.RegistersReadTheirValues : Prop :=
  ∀ s : State,
    s.readRegister 0 = some s.curRiseAcc ∧ s.readRegister 1 = some s.curFallAcc ∧
    s.readRegister 2 = some s.curRiseCnt ∧ s.readRegister 3 = some s.curFallCnt ∧
    s.readRegister 4 = some s.lastRiseAcc ∧ s.readRegister 5 = some s.lastFallAcc ∧
    s.readRegister 6 = some s.lastRiseCnt ∧ s.readRegister 7 = some s.lastFallCnt ∧
    s.readRegister 8 = some s.oscFreqCnt ∧ s.readRegister 9 = some s.prevRawCount ∧
    s.readRegister 11 = some s.consecutiveOverflowCount ∧
    (s.currentRangeIndex < 2 ^ 32 → s.readRegister 12 = some (BitVec.ofNat 32 s.currentRangeIndex)) ∧
    s.readRegister 13 = some s.consecutiveOutOfBandCount ∧
    (s.freqSetting < 2 ^ 32 → s.readRegister 14 = some (BitVec.ofNat 32 s.freqSetting)) ∧
    s.readRegister 15 = some (s.requestedVoltageMv.setWidth 32) ∧
    s.readRegister 16 = some (s.lastMeasuredVoltageMv.setWidth 32) ∧
    s.readRegister 17 = some (s.dacCode.setWidth 32) ∧
    s.readRegister 20 = some (s.pins.rselId.setWidth 32) ∧
    s.readRegister 22 = some (s.curGain.setWidth 32) ∧
    (∀ n : Nat, n ≤ 22 → ∃ v : U32, s.readRegister n = some v) ∧
    (∀ n : Nat, 23 ≤ n → s.readRegister n = none)

/-- A sample is a request and an answer, two transitions between which events run (R66, R67): the request strobe, and
the sequencer waits; an answer on the port moves the sequencer and nothing else, as a turn does with an oracle
that gives that answer (log entry 9). An answer that nothing waits for has no effect (log entry 8). -/
def Obligations.SampleIsARequestThenAnAnswer : Prop :=
  ∀ (s : State) (k : SamplePoint),
    (s.seq = .sample k → s.turn = { s with strobes := k.request s.cfg :: s.strobes, seq := .answer k }) ∧
    (s.seq = .answer k →
      s.turn = { s with oracle := s.oracle.advance }.adcRsp s.oracle.answer ∧ s.dlyDone = s ∧
      (∀ (code : U16) (o : Oracle), o.answer = code →
        s.adcRsp code = { { s with oracle := o }.turn with oracle := s.oracle }) ∧
      (∀ code : U16, ∃ q : Seq, s.adcRsp code = { s with seq := q } ∧ ∀ j : SamplePoint, q ≠ .answer j) ∧
      ∀ i : Instr, i.isEvent = true → ∃ t : State, exec i s = .next t ∧ t.seq = .answer k) ∧
    ((∀ j : SamplePoint, s.seq ≠ .answer j) → ∀ code : U16, s.adcRsp code = s)

/-- A delay is a request and its end, two transitions between which events run (R70); the request carries the unit, and
the length where it fits the port (R65; a longer one is a free value, log entry 16). A `dly_done` that nothing waits for
has no effect (log entry 8). -/
def Obligations.DelayIsARequestThenItsEnd : Prop :=
  ∀ (s : State) (d : DelayPoint),
    (s.seq = .delay d → (d.setting s.cfg).n < 2 ^ 32 →
      s.turn = { s with
        strobes := .delay (d.setting s.cfg).unit (BitVec.ofNat 32 (d.setting s.cfg).n) :: s.strobes
        seq := .delayDone d }) ∧
    (s.seq = .delay d → ∃ n : U32, s.turn = { s with
        strobes := .delay (d.setting s.cfg).unit n :: s.strobes, seq := .delayDone d }) ∧
    (s.seq = .delayDone d →
      s.dlyDone = { s with seq := d.after } ∧ s.turn = s.dlyDone ∧ (∀ code : U16, s.adcRsp code = s) ∧
      ∀ i : Instr, i.isEvent = true → ∃ t : State, exec i s = .next t ∧ t.seq = .delayDone d) ∧
    ((∀ e : DelayPoint, s.seq ≠ .delayDone e) → s.dlyDone = s)
end

