-- ==== Sys2Proof/Laws/Config.lean ====
section
/-! SUPPORT. What a well-formed configuration gives, and that the data form of `mvOf` loses no function. -/

namespace Sys2Proof.Cfg

theorem wf_iff (c : Cfg) : c.wf = true ↔ c.Constraints := decide_eq_true_iff

theorem counterBits_le (c : Cfg) (h : c.wf = true) : c.counterBits ≤ 32 := by
  obtain ⟨-, ⟨-, h⟩, -⟩ := c.wf_iff.1 h
  exact h

theorem numRanges_pos (c : Cfg) (h : c.wf = true) : 0 < c.numRanges := by
  obtain ⟨-, -, h, -⟩ := c.wf_iff.1 h
  exact h

theorem numFreqSettings_pos (c : Cfg) (h : c.wf = true) : 0 < c.numFreqSettings := by
  obtain ⟨-, -, -, -, -, -, -, h, -⟩ := c.wf_iff.1 h
  exact h

theorem lowBound_le_highBound (c : Cfg) (h : c.wf = true) : c.freqLowBound ≤ c.freqHighBound := by
  obtain ⟨-, -, -, -, -, -, -, -, -, -, h, -⟩ := c.wf_iff.1 h
  exact h

theorem hystThreshold_lt (c : Cfg) (h : c.wf = true) : c.hystThreshold.toNat < 2 ^ 32 - 1 := by
  obtain ⟨-, -, -, -, -, -, -, -, -, -, -, h, -⟩ := c.wf_iff.1 h
  exact h

theorem vbiasMin_lt_stepup (c : Cfg) (h : c.wf = true) : c.vbiasMinMv < c.stepupThresholdMv := by
  obtain ⟨-, -, -, -, -, -, -, -, -, -, -, -, -, h, -⟩ := c.wf_iff.1 h
  exact h

/-- R7 (b): the frequency estimate loses no bit (41_range_controller.md R143). -/
theorem counterBits_add_freqShift_le (c : Cfg) (h : c.wf = true) (i : Nat) (hi : i < c.numFreqSettings) :
    c.counterBits + c.freqShift i ≤ 32 := by
  obtain ⟨-, -, -, -, -, -, -, -, hlen, hall, -⟩ := c.wf_iff.1 h
  have hi' : i < c.freqShifts.length := hlen ▸ hi
  have hget : c.freqShift i = c.freqShifts[i] := by simp [freqShift, hi']
  rw [hget]
  exact (hall _ (List.getElem_mem hi')).2

/-- The table that lists a function at every code it is given. -/
def tableOf (f : U16 → U16) (codes : List U16) : List (U16 × U16) := codes.map fun x => (x, f x)

theorem lookup_tableOf (f : U16 → U16) (codes : List U16) (x : U16) (h : x ∈ codes) :
    (tableOf f codes).lookup x = some (f x) := by
  induction codes with
  | nil => cases h
  | cons y ys ih =>
    by_cases hxy : x = y
    · subst hxy; simp [tableOf]
    · have hmem : x ∈ ys := by simpa [hxy] using h
      have hne : (x == y) = false := by simpa using hxy
      simpa [tableOf, List.lookup, hne] using ih hmem

/-- R6's `mvOf` is any total function: each is the `mvOf` of some table (log entry 2). -/
theorem mvOf_reaches_every_function (f : U16 → U16) :
    ∃ table : List (U16 × U16), ∀ (c : Cfg) (x : U16), ({ c with mvTable := table } : Cfg).mvOf x = f x := by
  refine ⟨tableOf f ((List.range (2 ^ 16)).map (BitVec.ofNat 16)), fun c x => ?_⟩
  have hmem : x ∈ (List.range (2 ^ 16)).map (BitVec.ofNat 16) :=
    List.mem_map.2 ⟨x.toNat, List.mem_range.2 x.isLt, BitVec.ofNat_toNat 16 x ▸ by simp⟩
  simp only [mvOf, lookup_tableOf f _ x hmem, Option.getD_some]

end Sys2Proof.Cfg
end

