-- ==== Sys2Proof/Laws/Decode.lean ====
section
/-! SUPPORT. The two fields of an operation word, and operands that fit their field. -/

namespace Sys2Proof

theorem getLsbD_makeWord (op : U8) (x : U32) (i : Nat) :
    (makeWord op x).getLsbD i = if i < 32 then x.getLsbD i else op.getLsbD (i - 32) :=
  BitVec.getLsbD_append

@[simp] theorem opField_makeWord (op : U8) (x : U32) : opField (makeWord op x) = op := by
  apply BitVec.eq_of_getLsbD_eq
  intro i hi
  simp [opField, getLsbD_makeWord, hi]

@[simp] theorem operandField_makeWord (op : U8) (x : U32) : operandField (makeWord op x) = x := by
  apply BitVec.eq_of_getLsbD_eq
  intro i hi
  simp [operandField, getLsbD_makeWord, hi]

/-- Nothing of a word lies outside its two fields (R90). -/
theorem makeWord_fields (w : OpWord) : makeWord (opField w) (operandField w) = w := by
  apply BitVec.eq_of_getLsbD_eq
  intro i hi
  rw [getLsbD_makeWord]
  by_cases h : i < 32
  · simp [h, operandField]
  · have hlt : i - 32 < 8 := by omega
    have hadd : 32 + (i - 32) = i := by omega
    simp [h, opField, hlt, hadd]

theorem fitsIn_zero_iff (x : U32) : FitsIn 0 x ↔ x = 0 := by
  constructor
  · intro h
    apply BitVec.eq_of_toNat_eq
    simp [FitsIn] at h
    simp [h]
  · rintro rfl
    decide

/-- A field narrower than 32 bits comes back from its zero extension. -/
theorem setWidth_setWidth_of_fitsIn {n : Nat} (hn : n ≤ 32) (x : U32) (h : FitsIn n x) :
    (x.setWidth n).setWidth 32 = x := by
  apply BitVec.eq_of_toNat_eq
  simp only [BitVec.toNat_setWidth]
  rw [Nat.mod_eq_of_lt (Nat.lt_of_lt_of_le (Nat.mod_lt _ (Nat.two_pow_pos n)) (Nat.pow_le_pow_right (by omega) hn)),
    Nat.mod_eq_of_lt h]

theorem bit32_getLsbD_zero (b : Bool) : (bit32 b).getLsbD 0 = b := by cases b <;> rfl

theorem fitsIn_one_bit32 (b : Bool) : FitsIn 1 (bit32 b) := by cases b <;> decide

end Sys2Proof
end

