-- ==== Sys2Proof/Laws/State.lean ====
section
/-! SUPPORT. One lemma per field per shared update, so that no later proof unfolds a record update. -/

namespace Sys2Proof.Machine.State

open Sys2Proof

/-! ### `goto` -/

@[simp] theorem goto_cfg (s : State) (q : Seq) : (s.goto q).cfg = s.cfg := rfl
@[simp] theorem goto_curRiseAcc (s : State) (q : Seq) : (s.goto q).curRiseAcc = s.curRiseAcc := rfl
@[simp] theorem goto_curFallAcc (s : State) (q : Seq) : (s.goto q).curFallAcc = s.curFallAcc := rfl
@[simp] theorem goto_curRiseCnt (s : State) (q : Seq) : (s.goto q).curRiseCnt = s.curRiseCnt := rfl
@[simp] theorem goto_curFallCnt (s : State) (q : Seq) : (s.goto q).curFallCnt = s.curFallCnt := rfl
@[simp] theorem goto_lastRiseAcc (s : State) (q : Seq) : (s.goto q).lastRiseAcc = s.lastRiseAcc := rfl
@[simp] theorem goto_lastFallAcc (s : State) (q : Seq) : (s.goto q).lastFallAcc = s.lastFallAcc := rfl
@[simp] theorem goto_lastRiseCnt (s : State) (q : Seq) : (s.goto q).lastRiseCnt = s.lastRiseCnt := rfl
@[simp] theorem goto_lastFallCnt (s : State) (q : Seq) : (s.goto q).lastFallCnt = s.lastFallCnt := rfl
@[simp] theorem goto_oscFreqCnt (s : State) (q : Seq) : (s.goto q).oscFreqCnt = s.oscFreqCnt := rfl
@[simp] theorem goto_prevRawCount (s : State) (q : Seq) : (s.goto q).prevRawCount = s.prevRawCount := rfl
@[simp] theorem goto_windowReady (s : State) (q : Seq) : (s.goto q).windowReady = s.windowReady := rfl
@[simp] theorem goto_overflowFlag (s : State) (q : Seq) : (s.goto q).overflowFlag = s.overflowFlag := rfl
@[simp] theorem goto_consecutiveOverflowCount (s : State) (q : Seq) :
    (s.goto q).consecutiveOverflowCount = s.consecutiveOverflowCount := rfl
@[simp] theorem goto_currentRangeIndex (s : State) (q : Seq) :
    (s.goto q).currentRangeIndex = s.currentRangeIndex := rfl
@[simp] theorem goto_consecutiveOutOfBandCount (s : State) (q : Seq) :
    (s.goto q).consecutiveOutOfBandCount = s.consecutiveOutOfBandCount := rfl
@[simp] theorem goto_freqSetting (s : State) (q : Seq) : (s.goto q).freqSetting = s.freqSetting := rfl
@[simp] theorem goto_requestedVoltageMv (s : State) (q : Seq) :
    (s.goto q).requestedVoltageMv = s.requestedVoltageMv := rfl
@[simp] theorem goto_lastMeasuredVoltageMv (s : State) (q : Seq) :
    (s.goto q).lastMeasuredVoltageMv = s.lastMeasuredVoltageMv := rfl
@[simp] theorem goto_dacCode (s : State) (q : Seq) : (s.goto q).dacCode = s.dacCode := rfl
@[simp] theorem goto_sourceMode (s : State) (q : Seq) : (s.goto q).sourceMode = s.sourceMode := rfl
@[simp] theorem goto_curGain (s : State) (q : Seq) : (s.goto q).curGain = s.curGain := rfl
@[simp] theorem goto_adcCfg (s : State) (q : Seq) : (s.goto q).adcCfg = s.adcCfg := rfl
@[simp] theorem goto_fgBusy (s : State) (q : Seq) : (s.goto q).fgBusy = s.fgBusy := rfl
@[simp] theorem goto_pins (s : State) (q : Seq) : (s.goto q).pins = s.pins := rfl
@[simp] theorem goto_seq (s : State) (q : Seq) : (s.goto q).seq = q := rfl
@[simp] theorem goto_strobes (s : State) (q : Seq) : (s.goto q).strobes = s.strobes := rfl
@[simp] theorem goto_schedule (s : State) (q : Seq) : (s.goto q).schedule = s.schedule := rfl
@[simp] theorem goto_oracle (s : State) (q : Seq) : (s.goto q).oracle = s.oracle := rfl

/-! ### `strobe` -/

@[simp] theorem strobe_cfg (s : State) (o : Strobe) : (s.strobe o).cfg = s.cfg := rfl
@[simp] theorem strobe_curRiseAcc (s : State) (o : Strobe) : (s.strobe o).curRiseAcc = s.curRiseAcc := rfl
@[simp] theorem strobe_curFallAcc (s : State) (o : Strobe) : (s.strobe o).curFallAcc = s.curFallAcc := rfl
@[simp] theorem strobe_curRiseCnt (s : State) (o : Strobe) : (s.strobe o).curRiseCnt = s.curRiseCnt := rfl
@[simp] theorem strobe_curFallCnt (s : State) (o : Strobe) : (s.strobe o).curFallCnt = s.curFallCnt := rfl
@[simp] theorem strobe_lastRiseAcc (s : State) (o : Strobe) : (s.strobe o).lastRiseAcc = s.lastRiseAcc := rfl
@[simp] theorem strobe_lastFallAcc (s : State) (o : Strobe) : (s.strobe o).lastFallAcc = s.lastFallAcc := rfl
@[simp] theorem strobe_lastRiseCnt (s : State) (o : Strobe) : (s.strobe o).lastRiseCnt = s.lastRiseCnt := rfl
@[simp] theorem strobe_lastFallCnt (s : State) (o : Strobe) : (s.strobe o).lastFallCnt = s.lastFallCnt := rfl
@[simp] theorem strobe_oscFreqCnt (s : State) (o : Strobe) : (s.strobe o).oscFreqCnt = s.oscFreqCnt := rfl
@[simp] theorem strobe_prevRawCount (s : State) (o : Strobe) : (s.strobe o).prevRawCount = s.prevRawCount := rfl
@[simp] theorem strobe_windowReady (s : State) (o : Strobe) : (s.strobe o).windowReady = s.windowReady := rfl
@[simp] theorem strobe_overflowFlag (s : State) (o : Strobe) : (s.strobe o).overflowFlag = s.overflowFlag := rfl
@[simp] theorem strobe_consecutiveOverflowCount (s : State) (o : Strobe) :
    (s.strobe o).consecutiveOverflowCount = s.consecutiveOverflowCount := rfl
@[simp] theorem strobe_currentRangeIndex (s : State) (o : Strobe) :
    (s.strobe o).currentRangeIndex = s.currentRangeIndex := rfl
@[simp] theorem strobe_consecutiveOutOfBandCount (s : State) (o : Strobe) :
    (s.strobe o).consecutiveOutOfBandCount = s.consecutiveOutOfBandCount := rfl
@[simp] theorem strobe_freqSetting (s : State) (o : Strobe) : (s.strobe o).freqSetting = s.freqSetting := rfl
@[simp] theorem strobe_requestedVoltageMv (s : State) (o : Strobe) :
    (s.strobe o).requestedVoltageMv = s.requestedVoltageMv := rfl
@[simp] theorem strobe_lastMeasuredVoltageMv (s : State) (o : Strobe) :
    (s.strobe o).lastMeasuredVoltageMv = s.lastMeasuredVoltageMv := rfl
@[simp] theorem strobe_dacCode (s : State) (o : Strobe) : (s.strobe o).dacCode = s.dacCode := rfl
@[simp] theorem strobe_sourceMode (s : State) (o : Strobe) : (s.strobe o).sourceMode = s.sourceMode := rfl
@[simp] theorem strobe_curGain (s : State) (o : Strobe) : (s.strobe o).curGain = s.curGain := rfl
@[simp] theorem strobe_adcCfg (s : State) (o : Strobe) : (s.strobe o).adcCfg = s.adcCfg := rfl
@[simp] theorem strobe_fgBusy (s : State) (o : Strobe) : (s.strobe o).fgBusy = s.fgBusy := rfl
@[simp] theorem strobe_pins (s : State) (o : Strobe) : (s.strobe o).pins = s.pins := rfl
@[simp] theorem strobe_seq (s : State) (o : Strobe) : (s.strobe o).seq = s.seq := rfl
@[simp] theorem strobe_strobes (s : State) (o : Strobe) : (s.strobe o).strobes = o :: s.strobes := rfl
@[simp] theorem strobe_schedule (s : State) (o : Strobe) : (s.strobe o).schedule = s.schedule := rfl
@[simp] theorem strobe_oracle (s : State) (o : Strobe) : (s.strobe o).oracle = s.oracle := rfl

/-! ### `respond` -/

@[simp] theorem respond_cfg (s : State) (f : U8) (v : U32) : (s.respond f v).cfg = s.cfg := rfl
@[simp] theorem respond_curRiseAcc (s : State) (f : U8) (v : U32) : (s.respond f v).curRiseAcc = s.curRiseAcc := rfl
@[simp] theorem respond_curFallAcc (s : State) (f : U8) (v : U32) : (s.respond f v).curFallAcc = s.curFallAcc := rfl
@[simp] theorem respond_curRiseCnt (s : State) (f : U8) (v : U32) : (s.respond f v).curRiseCnt = s.curRiseCnt := rfl
@[simp] theorem respond_curFallCnt (s : State) (f : U8) (v : U32) : (s.respond f v).curFallCnt = s.curFallCnt := rfl
@[simp] theorem respond_lastRiseAcc (s : State) (f : U8) (v : U32) :
    (s.respond f v).lastRiseAcc = s.lastRiseAcc := rfl
@[simp] theorem respond_lastFallAcc (s : State) (f : U8) (v : U32) :
    (s.respond f v).lastFallAcc = s.lastFallAcc := rfl
@[simp] theorem respond_lastRiseCnt (s : State) (f : U8) (v : U32) :
    (s.respond f v).lastRiseCnt = s.lastRiseCnt := rfl
@[simp] theorem respond_lastFallCnt (s : State) (f : U8) (v : U32) :
    (s.respond f v).lastFallCnt = s.lastFallCnt := rfl
@[simp] theorem respond_oscFreqCnt (s : State) (f : U8) (v : U32) : (s.respond f v).oscFreqCnt = s.oscFreqCnt := rfl
@[simp] theorem respond_prevRawCount (s : State) (f : U8) (v : U32) :
    (s.respond f v).prevRawCount = s.prevRawCount := rfl
@[simp] theorem respond_windowReady (s : State) (f : U8) (v : U32) :
    (s.respond f v).windowReady = s.windowReady := rfl
@[simp] theorem respond_overflowFlag (s : State) (f : U8) (v : U32) :
    (s.respond f v).overflowFlag = s.overflowFlag := rfl
@[simp] theorem respond_consecutiveOverflowCount (s : State) (f : U8) (v : U32) :
    (s.respond f v).consecutiveOverflowCount = s.consecutiveOverflowCount := rfl
@[simp] theorem respond_currentRangeIndex (s : State) (f : U8) (v : U32) :
    (s.respond f v).currentRangeIndex = s.currentRangeIndex := rfl
@[simp] theorem respond_consecutiveOutOfBandCount (s : State) (f : U8) (v : U32) :
    (s.respond f v).consecutiveOutOfBandCount = s.consecutiveOutOfBandCount := rfl
@[simp] theorem respond_freqSetting (s : State) (f : U8) (v : U32) :
    (s.respond f v).freqSetting = s.freqSetting := rfl
@[simp] theorem respond_requestedVoltageMv (s : State) (f : U8) (v : U32) :
    (s.respond f v).requestedVoltageMv = s.requestedVoltageMv := rfl
@[simp] theorem respond_lastMeasuredVoltageMv (s : State) (f : U8) (v : U32) :
    (s.respond f v).lastMeasuredVoltageMv = s.lastMeasuredVoltageMv := rfl
@[simp] theorem respond_dacCode (s : State) (f : U8) (v : U32) : (s.respond f v).dacCode = s.dacCode := rfl
@[simp] theorem respond_sourceMode (s : State) (f : U8) (v : U32) : (s.respond f v).sourceMode = s.sourceMode := rfl
@[simp] theorem respond_curGain (s : State) (f : U8) (v : U32) : (s.respond f v).curGain = s.curGain := rfl
@[simp] theorem respond_adcCfg (s : State) (f : U8) (v : U32) : (s.respond f v).adcCfg = s.adcCfg := rfl
@[simp] theorem respond_fgBusy (s : State) (f : U8) (v : U32) : (s.respond f v).fgBusy = false := rfl
@[simp] theorem respond_pins (s : State) (f : U8) (v : U32) : (s.respond f v).pins = s.pins := rfl
@[simp] theorem respond_seq (s : State) (f : U8) (v : U32) : (s.respond f v).seq = .idle := rfl
@[simp] theorem respond_strobes (s : State) (f : U8) (v : U32) :
    (s.respond f v).strobes = .response f v :: s.strobes := rfl
@[simp] theorem respond_schedule (s : State) (f : U8) (v : U32) : (s.respond f v).schedule = s.schedule := rfl
@[simp] theorem respond_oracle (s : State) (f : U8) (v : U32) : (s.respond f v).oracle = s.oracle := rfl

/-! ### `delay` -/

@[simp] theorem delay_cfg (s : State) (d : Delay) : (s.delay d).cfg = s.cfg := rfl
@[simp] theorem delay_curRiseAcc (s : State) (d : Delay) : (s.delay d).curRiseAcc = s.curRiseAcc := rfl
@[simp] theorem delay_curFallAcc (s : State) (d : Delay) : (s.delay d).curFallAcc = s.curFallAcc := rfl
@[simp] theorem delay_curRiseCnt (s : State) (d : Delay) : (s.delay d).curRiseCnt = s.curRiseCnt := rfl
@[simp] theorem delay_curFallCnt (s : State) (d : Delay) : (s.delay d).curFallCnt = s.curFallCnt := rfl
@[simp] theorem delay_lastRiseAcc (s : State) (d : Delay) : (s.delay d).lastRiseAcc = s.lastRiseAcc := rfl
@[simp] theorem delay_lastFallAcc (s : State) (d : Delay) : (s.delay d).lastFallAcc = s.lastFallAcc := rfl
@[simp] theorem delay_lastRiseCnt (s : State) (d : Delay) : (s.delay d).lastRiseCnt = s.lastRiseCnt := rfl
@[simp] theorem delay_lastFallCnt (s : State) (d : Delay) : (s.delay d).lastFallCnt = s.lastFallCnt := rfl
@[simp] theorem delay_oscFreqCnt (s : State) (d : Delay) : (s.delay d).oscFreqCnt = s.oscFreqCnt := rfl
@[simp] theorem delay_prevRawCount (s : State) (d : Delay) : (s.delay d).prevRawCount = s.prevRawCount := rfl
@[simp] theorem delay_windowReady (s : State) (d : Delay) : (s.delay d).windowReady = s.windowReady := rfl
@[simp] theorem delay_overflowFlag (s : State) (d : Delay) : (s.delay d).overflowFlag = s.overflowFlag := rfl
@[simp] theorem delay_consecutiveOverflowCount (s : State) (d : Delay) :
    (s.delay d).consecutiveOverflowCount = s.consecutiveOverflowCount := rfl
@[simp] theorem delay_currentRangeIndex (s : State) (d : Delay) :
    (s.delay d).currentRangeIndex = s.currentRangeIndex := rfl
@[simp] theorem delay_consecutiveOutOfBandCount (s : State) (d : Delay) :
    (s.delay d).consecutiveOutOfBandCount = s.consecutiveOutOfBandCount := rfl
@[simp] theorem delay_freqSetting (s : State) (d : Delay) : (s.delay d).freqSetting = s.freqSetting := rfl
@[simp] theorem delay_requestedVoltageMv (s : State) (d : Delay) :
    (s.delay d).requestedVoltageMv = s.requestedVoltageMv := rfl
@[simp] theorem delay_lastMeasuredVoltageMv (s : State) (d : Delay) :
    (s.delay d).lastMeasuredVoltageMv = s.lastMeasuredVoltageMv := rfl
@[simp] theorem delay_dacCode (s : State) (d : Delay) : (s.delay d).dacCode = s.dacCode := rfl
@[simp] theorem delay_sourceMode (s : State) (d : Delay) : (s.delay d).sourceMode = s.sourceMode := rfl
@[simp] theorem delay_curGain (s : State) (d : Delay) : (s.delay d).curGain = s.curGain := rfl
@[simp] theorem delay_adcCfg (s : State) (d : Delay) : (s.delay d).adcCfg = s.adcCfg := rfl
@[simp] theorem delay_fgBusy (s : State) (d : Delay) : (s.delay d).fgBusy = s.fgBusy := rfl
@[simp] theorem delay_pins (s : State) (d : Delay) : (s.delay d).pins = s.pins := rfl
@[simp] theorem delay_seq (s : State) (d : Delay) : (s.delay d).seq = s.seq := rfl
@[simp] theorem delay_strobes (s : State) (d : Delay) : (s.delay d).strobes = delayRequest d :: s.strobes := rfl
@[simp] theorem delay_schedule (s : State) (d : Delay) : (s.delay d).schedule = s.schedule := rfl
@[simp] theorem delay_oracle (s : State) (d : Delay) : (s.delay d).oracle = s.oracle := rfl

/-! ### `setDacCode` -/

@[simp] theorem setDacCode_cfg (s : State) (c : U16) : (s.setDacCode c).cfg = s.cfg := rfl
@[simp] theorem setDacCode_curRiseAcc (s : State) (c : U16) : (s.setDacCode c).curRiseAcc = s.curRiseAcc := rfl
@[simp] theorem setDacCode_curFallAcc (s : State) (c : U16) : (s.setDacCode c).curFallAcc = s.curFallAcc := rfl
@[simp] theorem setDacCode_curRiseCnt (s : State) (c : U16) : (s.setDacCode c).curRiseCnt = s.curRiseCnt := rfl
@[simp] theorem setDacCode_curFallCnt (s : State) (c : U16) : (s.setDacCode c).curFallCnt = s.curFallCnt := rfl
@[simp] theorem setDacCode_lastRiseAcc (s : State) (c : U16) : (s.setDacCode c).lastRiseAcc = s.lastRiseAcc := rfl
@[simp] theorem setDacCode_lastFallAcc (s : State) (c : U16) : (s.setDacCode c).lastFallAcc = s.lastFallAcc := rfl
@[simp] theorem setDacCode_lastRiseCnt (s : State) (c : U16) : (s.setDacCode c).lastRiseCnt = s.lastRiseCnt := rfl
@[simp] theorem setDacCode_lastFallCnt (s : State) (c : U16) : (s.setDacCode c).lastFallCnt = s.lastFallCnt := rfl
@[simp] theorem setDacCode_oscFreqCnt (s : State) (c : U16) : (s.setDacCode c).oscFreqCnt = s.oscFreqCnt := rfl
@[simp] theorem setDacCode_prevRawCount (s : State) (c : U16) : (s.setDacCode c).prevRawCount = s.prevRawCount := rfl
@[simp] theorem setDacCode_windowReady (s : State) (c : U16) : (s.setDacCode c).windowReady = s.windowReady := rfl
@[simp] theorem setDacCode_overflowFlag (s : State) (c : U16) : (s.setDacCode c).overflowFlag = s.overflowFlag := rfl
@[simp] theorem setDacCode_consecutiveOverflowCount (s : State) (c : U16) :
    (s.setDacCode c).consecutiveOverflowCount = s.consecutiveOverflowCount := rfl
@[simp] theorem setDacCode_currentRangeIndex (s : State) (c : U16) :
    (s.setDacCode c).currentRangeIndex = s.currentRangeIndex := rfl
@[simp] theorem setDacCode_consecutiveOutOfBandCount (s : State) (c : U16) :
    (s.setDacCode c).consecutiveOutOfBandCount = s.consecutiveOutOfBandCount := rfl
@[simp] theorem setDacCode_freqSetting (s : State) (c : U16) : (s.setDacCode c).freqSetting = s.freqSetting := rfl
@[simp] theorem setDacCode_requestedVoltageMv (s : State) (c : U16) :
    (s.setDacCode c).requestedVoltageMv = s.requestedVoltageMv := rfl
@[simp] theorem setDacCode_lastMeasuredVoltageMv (s : State) (c : U16) :
    (s.setDacCode c).lastMeasuredVoltageMv = s.lastMeasuredVoltageMv := rfl
@[simp] theorem setDacCode_dacCode (s : State) (c : U16) : (s.setDacCode c).dacCode = c := rfl
@[simp] theorem setDacCode_sourceMode (s : State) (c : U16) : (s.setDacCode c).sourceMode = s.sourceMode := rfl
@[simp] theorem setDacCode_curGain (s : State) (c : U16) : (s.setDacCode c).curGain = s.curGain := rfl
@[simp] theorem setDacCode_adcCfg (s : State) (c : U16) : (s.setDacCode c).adcCfg = s.adcCfg := rfl
@[simp] theorem setDacCode_fgBusy (s : State) (c : U16) : (s.setDacCode c).fgBusy = s.fgBusy := rfl
@[simp] theorem setDacCode_pins (s : State) (c : U16) :
    (s.setDacCode c).pins = { s.pins with dacCode := c, dacEn := true } := rfl
@[simp] theorem setDacCode_seq (s : State) (c : U16) : (s.setDacCode c).seq = s.seq := rfl
@[simp] theorem setDacCode_strobes (s : State) (c : U16) : (s.setDacCode c).strobes = s.strobes := rfl
@[simp] theorem setDacCode_schedule (s : State) (c : U16) : (s.setDacCode c).schedule = s.schedule := rfl
@[simp] theorem setDacCode_oracle (s : State) (c : U16) : (s.setDacCode c).oracle = s.oracle := rfl

/-! ### `setResistorRange` -/

@[simp] theorem setResistorRange_cfg (s : State) (i : Nat) : (s.setResistorRange i).cfg = s.cfg := rfl
@[simp] theorem setResistorRange_curRiseAcc (s : State) (i : Nat) :
    (s.setResistorRange i).curRiseAcc = s.curRiseAcc := rfl
@[simp] theorem setResistorRange_curFallAcc (s : State) (i : Nat) :
    (s.setResistorRange i).curFallAcc = s.curFallAcc := rfl
@[simp] theorem setResistorRange_curRiseCnt (s : State) (i : Nat) :
    (s.setResistorRange i).curRiseCnt = s.curRiseCnt := rfl
@[simp] theorem setResistorRange_curFallCnt (s : State) (i : Nat) :
    (s.setResistorRange i).curFallCnt = s.curFallCnt := rfl
@[simp] theorem setResistorRange_lastRiseAcc (s : State) (i : Nat) :
    (s.setResistorRange i).lastRiseAcc = s.lastRiseAcc := rfl
@[simp] theorem setResistorRange_lastFallAcc (s : State) (i : Nat) :
    (s.setResistorRange i).lastFallAcc = s.lastFallAcc := rfl
@[simp] theorem setResistorRange_lastRiseCnt (s : State) (i : Nat) :
    (s.setResistorRange i).lastRiseCnt = s.lastRiseCnt := rfl
@[simp] theorem setResistorRange_lastFallCnt (s : State) (i : Nat) :
    (s.setResistorRange i).lastFallCnt = s.lastFallCnt := rfl
@[simp] theorem setResistorRange_oscFreqCnt (s : State) (i : Nat) :
    (s.setResistorRange i).oscFreqCnt = s.oscFreqCnt := rfl
@[simp] theorem setResistorRange_prevRawCount (s : State) (i : Nat) :
    (s.setResistorRange i).prevRawCount = s.prevRawCount := rfl
@[simp] theorem setResistorRange_windowReady (s : State) (i : Nat) :
    (s.setResistorRange i).windowReady = s.windowReady := rfl
@[simp] theorem setResistorRange_overflowFlag (s : State) (i : Nat) :
    (s.setResistorRange i).overflowFlag = s.overflowFlag := rfl
@[simp] theorem setResistorRange_consecutiveOverflowCount (s : State) (i : Nat) :
    (s.setResistorRange i).consecutiveOverflowCount = s.consecutiveOverflowCount := rfl
@[simp] theorem setResistorRange_currentRangeIndex (s : State) (i : Nat) :
    (s.setResistorRange i).currentRangeIndex = s.currentRangeIndex := rfl
@[simp] theorem setResistorRange_consecutiveOutOfBandCount (s : State) (i : Nat) :
    (s.setResistorRange i).consecutiveOutOfBandCount = s.consecutiveOutOfBandCount := rfl
@[simp] theorem setResistorRange_freqSetting (s : State) (i : Nat) :
    (s.setResistorRange i).freqSetting = s.freqSetting := rfl
@[simp] theorem setResistorRange_requestedVoltageMv (s : State) (i : Nat) :
    (s.setResistorRange i).requestedVoltageMv = s.requestedVoltageMv := rfl
@[simp] theorem setResistorRange_lastMeasuredVoltageMv (s : State) (i : Nat) :
    (s.setResistorRange i).lastMeasuredVoltageMv = s.lastMeasuredVoltageMv := rfl
@[simp] theorem setResistorRange_dacCode (s : State) (i : Nat) : (s.setResistorRange i).dacCode = s.dacCode := rfl
@[simp] theorem setResistorRange_sourceMode (s : State) (i : Nat) :
    (s.setResistorRange i).sourceMode = s.sourceMode := rfl
@[simp] theorem setResistorRange_curGain (s : State) (i : Nat) : (s.setResistorRange i).curGain = s.curGain := rfl
@[simp] theorem setResistorRange_adcCfg (s : State) (i : Nat) : (s.setResistorRange i).adcCfg = s.adcCfg := rfl
@[simp] theorem setResistorRange_fgBusy (s : State) (i : Nat) : (s.setResistorRange i).fgBusy = s.fgBusy := rfl
@[simp] theorem setResistorRange_pins (s : State) (i : Nat) :
    (s.setResistorRange i).pins = { s.pins with rselId := s.cfg.rangeId i, rselEn := true } := rfl
@[simp] theorem setResistorRange_seq (s : State) (i : Nat) : (s.setResistorRange i).seq = s.seq := rfl
@[simp] theorem setResistorRange_strobes (s : State) (i : Nat) : (s.setResistorRange i).strobes = s.strobes := rfl
@[simp] theorem setResistorRange_schedule (s : State) (i : Nat) : (s.setResistorRange i).schedule = s.schedule := rfl
@[simp] theorem setResistorRange_oracle (s : State) (i : Nat) : (s.setResistorRange i).oracle = s.oracle := rfl

/-! ### `adcConfigure` -/

@[simp] theorem adcConfigure_cfg (s : State) (ch : BitVec 2) (g : U8) : (s.adcConfigure ch g).cfg = s.cfg := by
  unfold adcConfigure; split <;> rfl
@[simp] theorem adcConfigure_curRiseAcc (s : State) (ch : BitVec 2) (g : U8) :
    (s.adcConfigure ch g).curRiseAcc = s.curRiseAcc := by
  unfold adcConfigure; split <;> rfl
@[simp] theorem adcConfigure_curFallAcc (s : State) (ch : BitVec 2) (g : U8) :
    (s.adcConfigure ch g).curFallAcc = s.curFallAcc := by
  unfold adcConfigure; split <;> rfl
@[simp] theorem adcConfigure_curRiseCnt (s : State) (ch : BitVec 2) (g : U8) :
    (s.adcConfigure ch g).curRiseCnt = s.curRiseCnt := by
  unfold adcConfigure; split <;> rfl
@[simp] theorem adcConfigure_curFallCnt (s : State) (ch : BitVec 2) (g : U8) :
    (s.adcConfigure ch g).curFallCnt = s.curFallCnt := by
  unfold adcConfigure; split <;> rfl
@[simp] theorem adcConfigure_lastRiseAcc (s : State) (ch : BitVec 2) (g : U8) :
    (s.adcConfigure ch g).lastRiseAcc = s.lastRiseAcc := by
  unfold adcConfigure; split <;> rfl
@[simp] theorem adcConfigure_lastFallAcc (s : State) (ch : BitVec 2) (g : U8) :
    (s.adcConfigure ch g).lastFallAcc = s.lastFallAcc := by
  unfold adcConfigure; split <;> rfl
@[simp] theorem adcConfigure_lastRiseCnt (s : State) (ch : BitVec 2) (g : U8) :
    (s.adcConfigure ch g).lastRiseCnt = s.lastRiseCnt := by
  unfold adcConfigure; split <;> rfl
@[simp] theorem adcConfigure_lastFallCnt (s : State) (ch : BitVec 2) (g : U8) :
    (s.adcConfigure ch g).lastFallCnt = s.lastFallCnt := by
  unfold adcConfigure; split <;> rfl
@[simp] theorem adcConfigure_oscFreqCnt (s : State) (ch : BitVec 2) (g : U8) :
    (s.adcConfigure ch g).oscFreqCnt = s.oscFreqCnt := by
  unfold adcConfigure; split <;> rfl
@[simp] theorem adcConfigure_prevRawCount (s : State) (ch : BitVec 2) (g : U8) :
    (s.adcConfigure ch g).prevRawCount = s.prevRawCount := by
  unfold adcConfigure; split <;> rfl
@[simp] theorem adcConfigure_windowReady (s : State) (ch : BitVec 2) (g : U8) :
    (s.adcConfigure ch g).windowReady = s.windowReady := by
  unfold adcConfigure; split <;> rfl
@[simp] theorem adcConfigure_overflowFlag (s : State) (ch : BitVec 2) (g : U8) :
    (s.adcConfigure ch g).overflowFlag = s.overflowFlag := by
  unfold adcConfigure; split <;> rfl
@[simp] theorem adcConfigure_consecutiveOverflowCount (s : State) (ch : BitVec 2) (g : U8) :
    (s.adcConfigure ch g).consecutiveOverflowCount = s.consecutiveOverflowCount := by
  unfold adcConfigure; split <;> rfl
@[simp] theorem adcConfigure_currentRangeIndex (s : State) (ch : BitVec 2) (g : U8) :
    (s.adcConfigure ch g).currentRangeIndex = s.currentRangeIndex := by
  unfold adcConfigure; split <;> rfl
@[simp] theorem adcConfigure_consecutiveOutOfBandCount (s : State) (ch : BitVec 2) (g : U8) :
    (s.adcConfigure ch g).consecutiveOutOfBandCount = s.consecutiveOutOfBandCount := by
  unfold adcConfigure; split <;> rfl
@[simp] theorem adcConfigure_freqSetting (s : State) (ch : BitVec 2) (g : U8) :
    (s.adcConfigure ch g).freqSetting = s.freqSetting := by
  unfold adcConfigure; split <;> rfl
@[simp] theorem adcConfigure_requestedVoltageMv (s : State) (ch : BitVec 2) (g : U8) :
    (s.adcConfigure ch g).requestedVoltageMv = s.requestedVoltageMv := by
  unfold adcConfigure; split <;> rfl
@[simp] theorem adcConfigure_lastMeasuredVoltageMv (s : State) (ch : BitVec 2) (g : U8) :
    (s.adcConfigure ch g).lastMeasuredVoltageMv = s.lastMeasuredVoltageMv := by
  unfold adcConfigure; split <;> rfl
@[simp] theorem adcConfigure_dacCode (s : State) (ch : BitVec 2) (g : U8) :
    (s.adcConfigure ch g).dacCode = s.dacCode := by
  unfold adcConfigure; split <;> rfl
@[simp] theorem adcConfigure_sourceMode (s : State) (ch : BitVec 2) (g : U8) :
    (s.adcConfigure ch g).sourceMode = s.sourceMode := by
  unfold adcConfigure; split <;> rfl
@[simp] theorem adcConfigure_curGain (s : State) (ch : BitVec 2) (g : U8) :
    (s.adcConfigure ch g).curGain = s.curGain := by
  unfold adcConfigure; split <;> rfl
@[simp] theorem adcConfigure_adcCfg (s : State) (ch : BitVec 2) (g : U8) :
    (s.adcConfigure ch g).adcCfg = ⟨ch, g⟩ := by
  unfold adcConfigure; split <;> simp_all
@[simp] theorem adcConfigure_fgBusy (s : State) (ch : BitVec 2) (g : U8) :
    (s.adcConfigure ch g).fgBusy = s.fgBusy := by
  unfold adcConfigure; split <;> rfl
@[simp] theorem adcConfigure_pins (s : State) (ch : BitVec 2) (g : U8) : (s.adcConfigure ch g).pins = s.pins := by
  unfold adcConfigure; split <;> rfl
@[simp] theorem adcConfigure_seq (s : State) (ch : BitVec 2) (g : U8) : (s.adcConfigure ch g).seq = s.seq := by
  unfold adcConfigure; split <;> rfl
@[simp] theorem adcConfigure_strobes (s : State) (ch : BitVec 2) (g : U8) :
    (s.adcConfigure ch g).strobes = if s.adcCfg = ⟨ch, g⟩ then s.strobes else .adcConfigure ch g true :: s.strobes := by
  unfold adcConfigure; split <;> simp_all
@[simp] theorem adcConfigure_schedule (s : State) (ch : BitVec 2) (g : U8) :
    (s.adcConfigure ch g).schedule = s.schedule := by
  unfold adcConfigure; split <;> rfl
@[simp] theorem adcConfigure_oracle (s : State) (ch : BitVec 2) (g : U8) :
    (s.adcConfigure ch g).oracle = s.oracle := by
  unfold adcConfigure; split <;> rfl

/-! ### Compositions -/

@[simp] theorem refuse_eq_respond (s : State) : s.refuse = s.respond Flag.illegal 0 := rfl

@[simp] theorem adcConfigureBias_eq_adcConfigure (s : State) :
    s.adcConfigureBias = s.adcConfigure s.cfg.vbiasCh s.cfg.vbiasGain := rfl

end Sys2Proof.Machine.State
end

