-- ==== Sys2Proof/Laws/Ops.lean ====
section
/-! SUPPORT. For each shared operation one lemma that says what it can do; later proofs cite it. -/

namespace Sys2Proof.Machine

open Sys2Proof

/-- A number that fits 32 lines is carried as it is. -/
theorem number32_of_lt (n : Nat) (h : n < 2 ^ 32) : number32 n = BitVec.ofNat 32 n := if_pos h

namespace State

/-- Acceptance while idle, and no effect while busy (R96, R97). -/
theorem accept_of_idle (s : State) (first : State → State) (h : s.fgBusy = false) :
    s.accept first = first { s with fgBusy := true } := by simp [accept, cmdReady, h]

theorem accept_of_busy (s : State) (first : State → State) (h : s.fgBusy = true) : s.accept first = s := by
  simp [accept, cmdReady, h]

/-- `AdcConfigure` leaves the ADC configured as asked, and strobes at most once (R68). -/
theorem adcConfigure_cases (s : State) (ch : BitVec 2) (g : U8) :
    (s.adcCfg = ⟨ch, g⟩ ∧ s.adcConfigure ch g = s) ∨
      (s.adcCfg ≠ ⟨ch, g⟩ ∧
        s.adcConfigure ch g = { s with adcCfg := ⟨ch, g⟩, strobes := .adcConfigure ch g true :: s.strobes }) := by
  by_cases h : s.adcCfg = ⟨ch, g⟩
  · exact .inl ⟨h, if_pos h⟩
  · exact .inr ⟨h, if_neg h⟩

/-- In one form for both cases: only `adcCfg` and the strobes are written. -/
theorem adcConfigure_eq (s : State) (ch : BitVec 2) (g : U8) :
    s.adcConfigure ch g = { s with
      adcCfg := ⟨ch, g⟩
      strobes := if s.adcCfg = ⟨ch, g⟩ then s.strobes else .adcConfigure ch g true :: s.strobes } := by
  rcases s.adcConfigure_cases ch g with ⟨h, e⟩ | ⟨h, e⟩
  · rw [e, if_pos h, ← h]
  · rw [e, if_neg h]

/-- The numbers of R50 are 0 to 22, and no others. -/
theorem readRegister_isSome_iff (s : State) (n : Nat) : (s.readRegister n).isSome = true ↔ n ≤ 22 := by
  constructor
  · intro h
    by_contra hn
    obtain ⟨k, rfl⟩ := Nat.exists_eq_add_of_le' (Nat.lt_of_not_le hn)
    simp [readRegister] at h
  · intro h
    interval_cases n <;> rfl

/-- An answered sample only moves the sequencer (R66). -/
theorem answered_eq_goto (s : State) (k : SamplePoint) (code : U16) :
    s.answered k code = s.goto (s.answered k code).seq := by
  cases k <;> rfl

theorem adcRsp_of_answer (s : State) (k : SamplePoint) (code : U16) (h : s.seq = .answer k) :
    s.adcRsp code = s.answered k code := by simp [adcRsp, h]

/-- An unsolicited answer has no effect. -/
theorem adcRsp_of_no_request (s : State) (code : U16) (h : ∀ k : SamplePoint, s.seq ≠ .answer k) :
    s.adcRsp code = s := by
  unfold adcRsp
  split
  · rename_i k hk
    exact absurd hk (h k)
  · rfl

theorem dlyDone_of_delayDone (s : State) (d : DelayPoint) (h : s.seq = .delayDone d) : s.dlyDone = s.goto d.after := by
  simp [dlyDone, h]

/-- An unsolicited `dly_done` has no effect. -/
theorem dlyDone_of_no_request (s : State) (h : ∀ d : DelayPoint, s.seq ≠ .delayDone d) : s.dlyDone = s := by
  unfold dlyDone
  split
  · rename_i d hd
    exact absurd hd (h d)
  · rfl

theorem turns_zero (s : State) : s.turns 0 = s := rfl

theorem turns_succ (s : State) (k : Nat) : s.turns (k + 1) = s.turn.turns k := rfl

theorem turns_add (s : State) (j k : Nat) : s.turns (j + k) = (s.turns j).turns k := by
  induction j generalizing s with
  | zero => simp [turns_zero]
  | succ j ih => rw [Nat.succ_add, turns_succ, turns_succ, ih]

end State

@[simp] theorem Progress.run_turn (s : State) : Progress.turn.run s = s.turn := rfl
@[simp] theorem Progress.run_adcRsp (s : State) (code : U16) : (Progress.adcRsp code).run s = s.adcRsp code := rfl
@[simp] theorem Progress.run_dlyDone (s : State) : Progress.dlyDone.run s = s.dlyDone := rfl

namespace Oracle

theorem answer_of_tape (o : Oracle) (c : U16) (rest : List U16) (h : o.tape = c :: rest) : o.answer = c := by
  simp [answer, h]

theorem advance_of_tape (o : Oracle) (c : U16) (rest : List U16) (h : o.tape = c :: rest) :
    o.advance = { o with tape := rest } := by
  simp [advance, h]

theorem answer_of_forever (o : Oracle) (c : U16) (ht : o.tape = []) (h : o.forever = some c) : o.answer = c := by
  simp [answer, ht, h]

theorem advance_of_forever (o : Oracle) (c : U16) (ht : o.tape = []) (h : o.forever = some c) : o.advance = o := by
  simp [advance, ht, h]

end Oracle

/-- Every meaning answers a next state: there is no exception (60_exceptions.md R210). -/
theorem exec_eq_next (i : Instr) (s : State) : ∃ t : State, exec i s = .next t := by
  cases i <;> exact ⟨_, rfl⟩

end Sys2Proof.Machine
end

