-- ==== Sys2Proof/Laws/PerInstr.lean ====
section
/-! SUPPORT. Statements made per instruction. `OpcodeField`: the word of an operation carries its opcode byte and its
operand, each in its own field, and the opcode is an event opcode exactly for an event (30_encoding.md R90, R91). -/

namespace Sys2Proof.Laws.OpcodeField

/-- The two fields of an operation's word, and the class of its opcode. -/
def Statement (i : Instr) : Prop :=
  opField (encode i) = i.opcode ∧ operandField (encode i) = i.operand ∧ isEventOpcode i.opcode = i.isEvent

theorem captureF (w : U32) : Statement (.captureF w) := ⟨opField_makeWord _ _, operandField_makeWord _ _, rfl⟩
theorem captureR (w : U32) : Statement (.captureR w) := ⟨opField_makeWord _ _, operandField_makeWord _ _, rfl⟩
theorem capovf : Statement .capovf := ⟨opField_makeWord _ _, operandField_makeWord _ _, rfl⟩
theorem winclose (raw : U32) : Statement (.winclose raw) := ⟨opField_makeWord _ _, operandField_makeWord _ _, rfl⟩
theorem capEnter (s : U8) : Statement (.capEnter s) := ⟨opField_makeWord _ _, operandField_makeWord _ _, rfl⟩
theorem capExit : Statement .capExit := ⟨opField_makeWord _ _, operandField_makeWord _ _, rfl⟩
theorem rangePoll (v : Bool) : Statement (.rangePoll v) := ⟨opField_makeWord _ _, operandField_makeWord _ _, rfl⟩
theorem curEnter (g : U8) : Statement (.curEnter g) := ⟨opField_makeWord _ _, operandField_makeWord _ _, rfl⟩
theorem curRead (a : U8) : Statement (.curRead a) := ⟨opField_makeWord _ _, operandField_makeWord _ _, rfl⟩
theorem curExit : Statement .curExit := ⟨opField_makeWord _ _, operandField_makeWord _ _, rfl⟩
theorem vbiasEnable (mv : U16) : Statement (.vbiasEnable mv) :=
  ⟨opField_makeWord _ _, operandField_makeWord _ _, rfl⟩
theorem vbiasUpdate (mv : U16) : Statement (.vbiasUpdate mv) :=
  ⟨opField_makeWord _ _, operandField_makeWord _ _, rfl⟩
theorem vbiasDisable : Statement .vbiasDisable := ⟨opField_makeWord _ _, operandField_makeWord _ _, rfl⟩
theorem rdreg (n : U8) : Statement (.rdreg n) := ⟨opField_makeWord _ _, operandField_makeWord _ _, rfl⟩

end Sys2Proof.Laws.OpcodeField
end

