-- ==== Sys2Proof/Laws/Step.lean ====
section
/-! SUPPORT. Once for all: what a step can do. -/

namespace Sys2Proof.Machine

open Sys2Proof

/-- On a well-formed configuration a step is a transition, otherwise it refuses (R7). -/
theorem step_of_wf (s : State) (h : s.cfg.wf = true) : step s = transition s := by simp [step, h]

theorem wf_of_step_eq_next (s t : State) (h : step s = .next t) : s.cfg.wf = true := by
  by_contra hw
  simp [step, hw] at h

/-- A word that is no command ends in a state that the refusal of R95, or the busy port of R97, gives. -/
theorem rejectOnPort_eq (s : State) : rejectOnPort s = .next (if s.fgBusy then s else s.respond Flag.illegal 0) := by
  cases h : s.fgBusy
  · simp [rejectOnPort, s.accept_of_idle _ h, State.respond]
  · simp [rejectOnPort, s.accept_of_busy _ h]

theorem deliver_of_decode (s : State) (w : OpWord) (i : Instr) (h : decode s.cfg w = .instr i) :
    deliver w s = exec i s := by
  simp [deliver, h]

/-- Everything a step with a next state can have done: a foreground transition, an instruction, a refusal on the
port, a wait that is over, or a reset; and what became of the schedule. -/
theorem step_cases (s t : State) (h : step s = .next t) :
    (∃ (p : Progress) (rest : List Input), t = p.run { s with schedule := rest } ∧
      (s.schedule = p.input :: rest ∨ (s.schedule = rest ∧ p = .turn))) ∨
    (∃ (w : OpWord) (rest : List Input) (i : Instr), decode s.cfg w = .instr i ∧
      (s.schedule = .trace w :: rest ∨ (s.schedule = .command w :: rest ∧ i.isEvent = false)) ∧
      exec i { s with schedule := rest } = .next t) ∨
    (∃ (w : OpWord) (rest : List Input), (s.schedule = .trace w :: rest ∨ s.schedule = .command w :: rest) ∧
      t = if s.fgBusy then { s with schedule := rest } else { s with schedule := rest }.respond Flag.illegal 0) ∨
    (∃ rest : List Input, s.schedule = .await :: rest ∧ s.fgBusy = false ∧ t = { s with schedule := rest }) ∨
    (∃ rest : List Input, s.schedule = .rst :: rest ∧ t = { s with schedule := rest }.resetInput) := by
  rw [step_of_wf s (wf_of_step_eq_next s t h)] at h
  unfold transition at h
  split at h
  · rename_i hs
    exact .inl ⟨.turn, s.schedule, by simpa using h.symm, .inr ⟨rfl, rfl⟩⟩
  · rename_i w rest hs
    unfold deliver at h
    split at h
    · rename_i i hd
      exact .inr (.inl ⟨w, rest, i, hd, .inl hs, h⟩)
    · rw [rejectOnPort_eq] at h
      exact .inr (.inr (.inl ⟨w, rest, .inl hs, by simpa using h.symm⟩))
    · split at h
      · cases h
      · rw [rejectOnPort_eq] at h
        exact .inr (.inr (.inl ⟨w, rest, .inl hs, by simpa using h.symm⟩))
  · rename_i w rest hs
    unfold commandPort at h
    split at h
    · rename_i i hd
      split at h
      · rw [rejectOnPort_eq] at h
        exact .inr (.inr (.inl ⟨w, rest, .inr hs, by simpa using h.symm⟩))
      · rename_i he
        exact .inr (.inl ⟨w, rest, i, hd, .inr ⟨hs, by simpa using he⟩, h⟩)
    · rw [rejectOnPort_eq] at h
      exact .inr (.inr (.inl ⟨w, rest, .inr hs, by simpa using h.symm⟩))
    · rw [rejectOnPort_eq] at h
      exact .inr (.inr (.inl ⟨w, rest, .inr hs, by simpa using h.symm⟩))
  · rename_i code rest hs
    exact .inl ⟨.adcRsp code, rest, by simpa using h.symm, .inl hs⟩
  · rename_i rest hs
    exact .inl ⟨.dlyDone, rest, by simpa using h.symm, .inl hs⟩
  · rename_i rest hs
    exact .inl ⟨.turn, rest, by simpa using h.symm, .inl hs⟩
  · rename_i rest hs
    split at h
    · exact .inl ⟨.turn, s.schedule, by simpa using h.symm, .inr ⟨rfl, rfl⟩⟩
    · rename_i hb
      exact .inr (.inr (.inr (.inl ⟨rest, hs, by simpa using hb, by simpa using h.symm⟩)))
  · rename_i rest hs
    exact .inr (.inr (.inr (.inr ⟨rest, hs, by simpa using h.symm⟩)))

end Sys2Proof.Machine
end

