-- ==== Sys2Proof/Machine/Text.lean ====
section
/-! DEFINITION. The textual form of programs (30_encoding.md R101, R102): one operation or test-bench directive a
line, `#` starts a comment, operands in decimal or `0x` hexadecimal. A program becomes a schedule in which each word
comes after the response of the command before it (R97; 95_test_vectors.md section 0; DESIGN CHOICE, log
entry 22). -/

namespace Sys2Proof.Machine

open Sys2Proof

/-- One line of a program. -/
inductive Line where
  | blank
  | operation (i : Instr)
  /-- `.adc c1 c2 ...` appends codes to the oracle tape (R102). -/
  | adc (codes : List U16)
  /-- `.cfg NAME` selects a named configuration (R102). -/
  | cfg (name : List Char)
deriving DecidableEq, Repr

/-- The text before a `#`. -/
def stripComment : List Char → List Char
  | [] => []
  | c :: cs => if c = '#' then [] else c :: stripComment cs

/-- Split at blanks; `word` is the token being read, reversed. -/
def tokensFrom (word : List Char) : List Char → List (List Char)
  | [] => if word.isEmpty then [] else [word.reverse]
  | c :: cs =>
    if c = ' ' then (if word.isEmpty then tokensFrom [] cs else word.reverse :: tokensFrom [] cs)
    else tokensFrom (c :: word) cs

/-- The value of a digit in base `base`. -/
def digitOf (base : Nat) (c : Char) : Option Nat :=
  let n := c.toNat
  let d :=
    if 48 ≤ n ∧ n ≤ 57 then n - 48
    else if 97 ≤ n ∧ n ≤ 102 then n - 87
    else if 65 ≤ n ∧ n ≤ 70 then n - 55
    else base
  if d < base then some d else none

/-- The digits of a number in base `base`, after `value`. -/
def digitsFrom (base : Nat) (value : Nat) : List Char → Option Nat
  | [] => some value
  | c :: cs => (digitOf base c).bind fun d => digitsFrom base (value * base + d) cs

/-- A number in decimal or `0x` hexadecimal (R101). -/
def numberOf : List Char → Option Nat
  | [] => none
  | ['0', 'x'] => none
  | '0' :: 'x' :: cs => digitsFrom 16 0 cs
  | cs => digitsFrom 10 0 cs

/-- A number that fits an `n`-bit field. -/
def fieldOf (n : Nat) (cs : List Char) : Option (BitVec n) :=
  (numberOf cs).bind fun v => if v < 2 ^ n then some (BitVec.ofNat n v) else none

/-- The operations without an operand, by mnemonic (R101). -/
def plainMnemonics : List (List Char × Instr) :=
  [ ("capovf".toList, .capovf), ("cap.exit".toList, .capExit), ("range.poll".toList, .rangePoll false),
    ("cur.exit".toList, .curExit), ("vbias.disable".toList, .vbiasDisable) ]

/-- The operations with an operand, by mnemonic (R101). -/
def operationWith (mnemonic operand : List Char) : Option Instr :=
  if mnemonic = "capture.f".toList then (fieldOf 32 operand).map .captureF
  else if mnemonic = "capture.r".toList then (fieldOf 32 operand).map .captureR
  else if mnemonic = "winclose".toList then (fieldOf 32 operand).map .winclose
  else if mnemonic = "cap.enter".toList then (fieldOf 8 operand).map .capEnter
  else if mnemonic = "range.poll".toList then (if operand = ['v'] then some (.rangePoll true) else none)
  else if mnemonic = "cur.enter".toList then (fieldOf 8 operand).map .curEnter
  else if mnemonic = "cur.read".toList then (fieldOf 8 operand).map .curRead
  else if mnemonic = "vbias.enable".toList then (fieldOf 16 operand).map .vbiasEnable
  else if mnemonic = "vbias.update".toList then (fieldOf 16 operand).map .vbiasUpdate
  else if mnemonic = "rdreg".toList then (fieldOf 8 operand).map .rdreg
  else none

/-- One line; none if it is no line of R101 or R102. -/
def parseLine (text : List Char) : Option Line :=
  match tokensFrom [] (stripComment text) with
  | [] => some .blank
  | first :: args =>
    if first = ".adc".toList then (args.mapM (fieldOf 16)).map .adc
    else
      match args with
      | [] => (plainMnemonics.lookup first).map .operation
      | [x] => if first = ".cfg".toList then some (.cfg x) else (operationWith first x).map .operation
      | _ :: _ :: _ => none

/-- The named configurations: the spec names one (95_test_vectors.md). -/
def configNamed (name : List Char) : Option Cfg := if name = "TV-CFG".toList then some Cfg.testVector else none

/-- Put one line at the end of what a state has scheduled. -/
def State.loadLine (s : State) : Line → Option State
  | .blank => some s
  | .operation i => some { s with schedule := s.schedule ++ [.trace (encode i), .await] }
  | .adc codes => some { s with oracle := { s.oracle with tape := s.oracle.tape ++ codes } }
  | .cfg name => (configNamed name).map fun c => { s with cfg := c }

/-- Load a whole program; none if a line is not one. -/
def State.loadProgram (s : State) : List (List Char) → Option State
  | [] => some s
  | l :: ls => (parseLine l).bind fun line => (s.loadLine line).bind fun s' => s'.loadProgram ls

/-- No sample was taken past the tape: a program that takes one 'is ill formed' (R102). -/
def State.tapeSufficed (s : State) : Bool := s.oracle.draws == 0

end Sys2Proof.Machine
end

