-- ==== Sys2Proof/Tests/Slice0.lean ====
section
/-! SUPPORT. Tests with expected results from 95_test_vectors.md (V1 to V57, P1, P3, under `TV-CFG`), the smoke tests of
the well-formedness checks, and the witnesses that the statements' hypotheses can be met. -/

namespace Sys2Proof.Tests

open Sys2Proof Sys2Proof.Machine

/-! ## States and results -/

/-- ON-LDO of section 2.3. -/
def onLdo : State := { State.reset with
  sourceMode := .ldoRegulated, requestedVoltageMv := 2500, lastMeasuredVoltageMv := 2480, dacCode := 9
  adcCfg := ⟨1, 0⟩, pins := { Pins.reset with ldoEn := true, dacEn := true, dacCode := 9 } }

/-- ON-SU of section 2.3. -/
def onSu : State := { State.reset with
  sourceMode := .stepUpConverter, requestedVoltageMv := 4500, lastMeasuredVoltageMv := 4460, dacCode := 11
  adcCfg := ⟨1, 0⟩, pins := { Pins.reset with ldoEn := true, stepupEn := true, dacEn := true, dacCode := 11 } }

/-- A state inside a command, at position `q`, with codes on the oracle's tape. -/
def inside (s : State) (q : Seq) (codes : List U16) : State :=
  { s with fgBusy := true, seq := q, oracle := { s.oracle with tape := codes } }

/-- A ready window with the registers a poll reads. -/
def window (setting index : Nat) (osc count : U32) : State := { State.reset with
  windowReady := true, freqSetting := setting, currentRangeIndex := index, oscFreqCnt := osc
  consecutiveOutOfBandCount := count }

/-- One view of the next state; none where there is none. -/
def view {α : Type} (r : Result) (f : State → α) : Option α :=
  match r with
  | .next t => some (f t)
  | .fault _ => none
  | .refused _ => none

/-! ## Well-formedness: each check refuses an ill-formed term -/

theorem smoke_testVector_is_wellFormed : Cfg.testVector.wf = true := by decide

theorem smoke_captureF_too_wide :
    (Instr.captureF 0xFFFF).wf .testVector = true ∧ (Instr.captureF 0x10000).wf .testVector = false := by decide

theorem smoke_captureR_too_wide :
    (Instr.captureR 0xFFFF).wf .testVector = true ∧ (Instr.captureR 0x10000).wf .testVector = false := by decide

theorem smoke_winclose_too_wide :
    (Instr.winclose 0xFFFF).wf .testVector = true ∧ (Instr.winclose 0x10000).wf .testVector = false := by decide

theorem smoke_captureBits :
    ({ Cfg.testVector with captureBits := 0 } : Cfg).wf = false ∧
    ({ Cfg.testVector with captureBits := 33 } : Cfg).wf = false := by decide

theorem smoke_counterBits :
    ({ Cfg.testVector with counterBits := 0 } : Cfg).wf = false ∧
    ({ Cfg.testVector with counterBits := 33, freqShifts := [0, 0, 0] } : Cfg).wf = false := by decide

theorem smoke_no_range :
    ({ Cfg.testVector with numRanges := 0, rangeIds := [], rangeResistances := [], rangeHalfValues := [] } : Cfg).wf =
      false := by decide

theorem smoke_rangeIds_length : ({ Cfg.testVector with rangeIds := [0x10#8] } : Cfg).wf = false := by decide

theorem smoke_rangeResistances_length : ({ Cfg.testVector with rangeResistances := [0] } : Cfg).wf = false := by decide

/-- R7 (f): two ranges in the wrong order, and two of equal resistance, which are in order. -/
theorem smoke_resistances_not_ascending :
    ({ Cfg.testVector with rangeResistances := [0, 2, 1, 3] } : Cfg).wf = false ∧
    ({ Cfg.testVector with rangeResistances := [0, 1, 1, 3] } : Cfg).wf = true := by decide

theorem smoke_rangeHalfValues_length : ({ Cfg.testVector with rangeHalfValues := [500#32] } : Cfg).wf = false := by
  decide

theorem smoke_no_freqSetting : ({ Cfg.testVector with numFreqSettings := 0, freqShifts := [] } : Cfg).wf = false := by
  decide

theorem smoke_freqShifts_length : ({ Cfg.testVector with freqShifts := [0, 2] } : Cfg).wf = false := by decide

theorem smoke_freqShift_loses_bits :
    ({ Cfg.testVector with freqShifts := [0, 2, 16] } : Cfg).wf = true ∧
    ({ Cfg.testVector with freqShifts := [0, 2, 17] } : Cfg).wf = false := by decide

theorem smoke_bounds_crossed :
    ({ Cfg.testVector with freqLowBound := 200000#32 } : Cfg).wf = true ∧
    ({ Cfg.testVector with freqLowBound := 200001#32 } : Cfg).wf = false := by decide

theorem smoke_hystThreshold :
    ({ Cfg.testVector with hystThreshold := 0xFFFFFFFE#32 } : Cfg).wf = true ∧
    ({ Cfg.testVector with hystThreshold := 0xFFFFFFFF#32 } : Cfg).wf = false := by decide

theorem smoke_dacMax : ({ Cfg.testVector with dacMax := 0#16 } : Cfg).wf = false := by decide

theorem smoke_minimum_below_stepup :
    ({ Cfg.testVector with vbiasMinMv := 3999#16 } : Cfg).wf = true ∧
    ({ Cfg.testVector with vbiasMinMv := 4000#16 } : Cfg).wf = false := by decide

theorem smoke_channels :
    ({ Cfg.testVector with vbiasCh := 0#2 } : Cfg).wf = false ∧
    ({ Cfg.testVector with currentCh := 0#2 } : Cfg).wf = false ∧
    ({ Cfg.testVector with currentCh := 1#2 } : Cfg).wf = false := by decide

/-! ## Decoding: words written out from 30_encoding.md R92, R93 -/

/-- `decode` under `TV-CFG`. -/
def dec (w : OpWord) : Decoded := decode .testVector w

theorem test_decode_events :
    dec 0x1000000080#40 = .instr (.captureF 0x80#32) ∧ dec 0x1100000100#40 = .instr (.captureR 0x100#32) ∧
    dec 0x1200000000#40 = .instr .capovf ∧ dec 0x1300009000#40 = .instr (.winclose 0x9000#32) := by decide

theorem test_decode_range :
    dec 0x2000000001#40 = .instr (.capEnter 1#8) ∧ dec 0x2100000000#40 = .instr .capExit ∧
    dec 0x2200000000#40 = .instr (.rangePoll false) ∧ dec 0x2200000001#40 = .instr (.rangePoll true) := by decide

theorem test_decode_current :
    dec 0x3000000003#40 = .instr (.curEnter 3#8) ∧ dec 0x31000000FF#40 = .instr (.curRead 255#8) ∧
    dec 0x3200000000#40 = .instr .curExit := by decide

theorem test_decode_servo :
    dec 0x4000001194#40 = .instr (.vbiasEnable 4500#16) ∧ dec 0x41000009C4#40 = .instr (.vbiasUpdate 2500#16) ∧
    dec 0x4200000000#40 = .instr .vbiasDisable := by decide

theorem test_decode_rdreg : dec 0x500000000F#40 = .instr (.rdreg 15#8) := by decide

/-- V55 and the ends of the ranges of R95. -/
theorem test_decode_reserved_opcodes :
    ([0x00, 0x0F, 0x14, 0x1F, 0x23, 0x2F, 0x33, 0x3F, 0x43, 0x4F, 0x51, 0xFF] : List U8).all
      (fun op => dec (makeWord op 0) = .reservedOpcode op) = true := by decide

/-- V19c, V45, V54, V57 and the lowest reserved bit of the other fields. -/
theorem test_decode_reserved_operands :
    ([(0x10, 0x10000), (0x11, 0x10000), (0x12, 1), (0x13, 0x10000), (0x20, 0x100), (0x21, 1), (0x22, 2), (0x30, 0x100),
      (0x31, 0x100), (0x32, 1), (0x40, 0x10000), (0x41, 0x10000), (0x42, 1), (0x50, 0x100)] : List (U8 × U32)).all
      (fun p => dec (makeWord p.1 p.2) = .reservedOperand p.1) = true := by decide

/-- The byte order of 20_memory.md R61, on `vbias.enable 4500` of P3. -/
theorem test_bytes :
    bytesOfWord (encode (.vbiasEnable 4500#16)) = [0x40, 0x00, 0x00, 0x11, 0x94] ∧
    decodeBytes .testVector [0x40, 0x00, 0x00, 0x11, 0x94, 0x42] = some (.instr (.vbiasEnable 4500#16), [0x42]) := by
  decide

theorem test_table_word :
    decodeTableWord 40 0x500000000F = some (.rdreg 15#8) ∧ decodeTableWord 40 0x5100000000 = none ∧
    view (step (State.reset.withFetchWord 40 0x1200000000)) (·.overflowFlag) = some true := by decide

/-! ## Programs as text (R101, R102) -/

theorem test_text_line :
    parseLine "winclose 0x9000  # P1".toList = some (.operation (.winclose 0x9000#32)) ∧
    parseLine "range.poll v".toList = some (.operation (.rangePoll true)) ∧
    parseLine ".adc 100 99".toList = some (.adc [100#16, 99#16]) ∧
    parseLine "rdreg 256".toList = none := by decide

/-! ## One step of each operation -/

/-- V2. -/
theorem test_captureF_zero_width_counts :
    view (exec (.captureF 0) .reset) (fun t => (t.curFallAcc, t.curFallCnt, t.curRiseCnt)) = some (0, 1, 0) := by
  decide

/-- V9a: the count and the sum wrap independently. -/
theorem test_captureF_count_wraps :
    view (exec (.captureF 1) { State.reset with curFallCnt := 0xFFFFFFFF, curFallAcc := 9 })
      (fun t => (t.curFallAcc, t.curFallCnt)) = some (10, 0) := by decide

/-- V1. -/
theorem test_captureR_sum_wraps :
    view (exec (.captureR 0xFFFF) { State.reset with curRiseAcc := 0xFFFFFFFF, curRiseCnt := 7 })
      (fun t => (t.curRiseAcc, t.curRiseCnt, t.curFallCnt)) = some (0xFFFE, 8, 0) := by decide

/-- V3, its first capture. -/
theorem test_captureR_discards :
    view (exec (.captureR 0x10) { State.reset with overflowFlag := true, consecutiveOverflowCount := 2 })
      (fun t => (t.curRiseAcc, t.curRiseCnt, t.overflowFlag, t.consecutiveOverflowCount)) = some (0, 0, false, 2) := by
  decide

/-- V9. -/
theorem test_capovf_wraps :
    view (exec .capovf { State.reset with consecutiveOverflowCount := 0xFFFFFFFF })
      (fun t => (t.overflowFlag, t.consecutiveOverflowCount)) = some (true, 0) := by decide

/-- V4, V5, V6. -/
theorem test_winclose_counts :
    view (exec (.winclose 0x1234) { State.reset with prevRawCount := 0x1234 }) (·.oscFreqCnt) = some 0 ∧
    view (exec (.winclose 0) { State.reset with prevRawCount := 1 }) (·.oscFreqCnt) = some 0xFFFF ∧
    view (exec (.winclose 0xFFFF) .reset) (fun t => (t.oscFreqCnt, t.prevRawCount)) = some (0xFFFF, 0xFFFF) := by
  decide

/-- V9b and V8's first close. -/
theorem test_winclose_latches :
    view (exec (.winclose 0) { State.reset with
      curRiseAcc := 3, curRiseCnt := 1, curFallAcc := 4, curFallCnt := 2, prevRawCount := 0xC000
      overflowFlag := true, consecutiveOverflowCount := 1 })
      (fun t => ([t.lastRiseAcc, t.lastRiseCnt, t.lastFallAcc, t.lastFallCnt, t.curRiseAcc, t.curRiseCnt, t.curFallAcc,
        t.curFallCnt, t.oscFreqCnt, t.prevRawCount, t.consecutiveOverflowCount], t.overflowFlag, t.windowReady)) =
      some ([3, 1, 4, 2, 0, 0, 0, 0, 0x4000, 0, 0], true, true) := by decide

/-- V19a, its atomic group. -/
theorem test_capEnter_zeroes :
    view (exec (.capEnter 0) { State.reset with
      windowReady := true, consecutiveOutOfBandCount := 2, currentRangeIndex := 2, curRiseAcc := 9, curRiseCnt := 1
      lastRiseAcc := 4, prevRawCount := 0x0700, overflowFlag := true, consecutiveOverflowCount := 3 })
      (fun t => ([t.curRiseAcc, t.curRiseCnt, t.consecutiveOutOfBandCount, t.lastRiseAcc, t.prevRawCount,
        t.consecutiveOverflowCount], t.windowReady, t.overflowFlag, t.currentRangeIndex, t.freqSetting, t.seq)) =
      some ([0, 0, 0, 4, 0x0700, 3], false, true, 2, 0, .capEnterMux) := by decide

/-- V19a, the mux pins, and V19b. -/
theorem test_capEnter_mux_and_refusal :
    (inside { State.reset with currentRangeIndex := 2 } .capEnterMux []).turn.pins =
      { Pins.reset with rselEn := true, rselId := 0x12 } ∧
    view (exec (.capEnter 3) .reset) (fun t => (t.strobes, t.fgBusy, t.pins)) =
      some ([.response 1 0], false, Pins.reset) := by decide

/-- V19d. -/
theorem test_capExit_keeps_the_id :
    view (exec .capExit { State.reset with windowReady := true, pins := { Pins.reset with rselEn := true, rselId := 0x12 } })
      (fun t => (t.pins, t.windowReady, t.seq)) =
      some ({ Pins.reset with rselId := 0x12 }, true, .respond 0 0) := by decide

/-- V10, V11, V12, V13, V15, V15a, V18: the count after the poll and the response; V17: no window. -/
theorem test_rangePoll_counts :
    [window 1 1 50000 1, window 1 1 50001 1, window 1 1 2500 1, window 1 1 2499 1, window 0 0 100 1,
      window 2 3 0x4000 2, window 0 2 0 0].map
      (fun s => view (exec (.rangePoll false) s) (fun t => (t.consecutiveOutOfBandCount, t.seq))) =
    [some (0, .respond 0 0x30D40), some (2, .respond 0 0x30D44), some (0, .respond 0 0x2710),
      some (2, .respond 0 0x270C), some (0, .respond 0 0x64), some (0, .respond 0 0x40000),
      some (1, .respond 0 0)] ∧
    view (exec (.rangePoll true) { State.reset with consecutiveOverflowCount := 5 })
      (fun t => (t.consecutiveOverflowCount, t.strobes, t.seq)) = some (5, [], .respond 4 0) := by decide

/-- V19: the move with its report. -/
theorem test_rangePoll_moves_and_reports :
    view (exec (.rangePoll true) { window 1 1 50001 2 with
      lastFallAcc := 0x2222, pins := { Pins.reset with rselEn := true, rselId := 0x11 } })
      (fun t => (t.currentRangeIndex, t.consecutiveOutOfBandCount, t.pins.rselId, t.strobes, t.seq)) =
      some (2, 0, 0x12, [.report ⟨1, 0x2222, 50001, 50000, 0x0400, 0x0C00⟩], .respond 0x50 0x30D44) := by decide

/-- V40, the gain and the amplifier. -/
theorem test_curEnter_first :
    view (exec (.curEnter 3) .reset) (fun t => (t.curGain, t.pins.csampEn, t.strobes, t.seq)) =
      some (3, true, [], .curEnterConfigure 3) := by decide

/-- V40, V41, V42, the ADC. -/
theorem test_curEnter_configures :
    (inside .reset (.curEnterConfigure 3) []).turn.strobes = [.adcConfigure 2 3 true] ∧
    (inside { State.reset with adcCfg := ⟨2, 3⟩ } (.curEnterConfigure 3) []).turn.strobes = [] ∧
    (inside { State.reset with adcCfg := ⟨2, 3⟩ } (.curEnterConfigure 5) []).turn.adcCfg = ⟨2, 5⟩ := by decide

/-- V43, the pointing back. -/
theorem test_curRead_first :
    view (exec (.curRead 0) .reset) (fun t => (t.adcCfg, t.strobes, t.pins.csampEn, t.seq)) =
      some (⟨2, 0⟩, [.adcConfigure 2 0 true], false, .sample (.curRead 0)) := by decide

/-- V46, the sample: the shift unchecked, the code raw. -/
theorem test_curRead_sample :
    (inside .reset (.sample (.curRead 255)) []).turn.strobes = [.adcAverage 2 255] ∧
    (inside .reset (.answer (.curRead 255)) [0xFFFF]).turn.seq = .respond 0 0xFFFF ∧
    (inside .reset (.answer (.curRead 255)) []).adcRsp 0xFFFF = inside .reset (.respond 0 0xFFFF) [] := by decide

/-- V44. -/
theorem test_curExit :
    view (exec .curExit { State.reset with
      curGain := 3, adcCfg := ⟨2, 3⟩, pins := { Pins.reset with csampEn := true } })
      (fun t => (t.curGain, t.adcCfg, t.pins, t.seq)) = some (3, ⟨2, 3⟩, Pins.reset, .respond 0 0) := by decide

/-- P3, micro-step 1 of command 1. -/
theorem test_vbiasEnable_reset_phase :
    view (exec (.vbiasEnable 4500) .reset)
      (fun t => (t.requestedVoltageMv, t.lastMeasuredVoltageMv, t.dacCode, t.pins, t.sourceMode, t.seq)) =
      some (1000, 1000, 15, { Pins.reset with dacEn := true, dacCode := 15 }, .off, .enableLdo 4500) := by decide

/-- V34, and P3's micro-step 2 of command 1. -/
theorem test_vbiasEnable_refused_and_ldo :
    view (exec (.vbiasEnable 3000) onLdo) (·.strobes) = some [.response 1 0] ∧
    (inside .reset (.enableLdo 4500) []).turn.sourceMode = .ldoRegulated ∧
    (inside .reset (.enableLdo 4500) []).turn.pins = { Pins.reset with ldoEn := true } := by decide

/-- V20, V21, V36, V27: the no-op, the refusal, the clamp, and the crossing of the threshold. -/
theorem test_vbiasUpdate_starts :
    view (exec (.vbiasUpdate 2500) onLdo) (·.strobes) = some [.response 4 0x9B0] ∧
    view (exec (.vbiasUpdate 2000) .reset) (·.strobes) = some [.response 1 0] ∧
    view (exec (.vbiasUpdate 999) onLdo) (·.seq) = some .updateClamped ∧
    (inside onLdo (.incEntry ⟨4000, 2480, false, true, 0⟩) []).turn.sourceMode = .stepUpConverter ∧
    (inside onLdo (.incEntry ⟨3999, 2480, false, true, 0⟩) []).turn.seq =
      .delay (.incStep ⟨3999, 2480, false, true, 0⟩) := by decide

/-- The samples of V26 (2300, 2301), V24 (1950), V25 (1949), and the ends at the bound of V23 and V35. -/
theorem test_vbiasUpdate_search :
    (inside onLdo (.answer (.decSearch ⟨2000, 2480, false, true, 0⟩)) [2300]).turn.seq =
      .decLoop ⟨2000, 2300, true, true, 0⟩ ∧
    (inside onLdo (.sample (.decSearch ⟨2000, 2300, true, true, 0⟩)) []).turn.strobes = [.adcStabilized ⟨4, 10, false⟩] ∧
    (inside onLdo (.answer (.incSearch ⟨2000, 1500, false, true, 0⟩)) [1950]).turn.seq =
      .searchDone ⟨2000, 1950, false, false, 0⟩ ∧
    (inside onLdo (.answer (.incSearch ⟨2000, 1500, false, true, 0⟩)) [1949]).turn.seq =
      .incLoop ⟨2000, 1949, true, true, 0⟩ ∧
    (inside { onLdo with dacCode := 15 } (.decLoop ⟨2000, 2480, false, true, 0⟩) []).turn.strobes =
      [.response 8 0x9B0] ∧
    (inside { onLdo with dacCode := 0 } (.incLoop ⟨3000, 1600, false, true, 0⟩) []).turn.strobes =
      [.response 8 0x640] := by decide

/-- V31, the first micro-step, and P3's of command 2. -/
theorem test_vbiasDisable_first :
    view (exec .vbiasDisable onLdo) (fun t => (t.pins, t.sourceMode, t.dacCode, t.seq)) =
      some ({ Pins.reset with dacCode := 9 }, .off, 9, .disQuench) := by decide

/-- V31, the samples 100 and 99, and the record. -/
theorem test_vbiasDisable_wait :
    (inside onLdo (.answer .quench) [100, 99]).turn.seq = .sample .quench ∧
    (inside onLdo (.answer .quench) []).adcRsp 99 = inside onLdo (.disQuenchOff 99) [] ∧
    (inside onLdo (.disRecord 99) []).turn.strobes = [.response 0 0x63] ∧
    (inside onLdo (.disRecord 99) []).turn.requestedVoltageMv = 0 := by decide

/-- V50, V51: ON-SU's registers 15 to 19 and 21. -/
theorem test_rdreg_values :
    [15, 16, 17, 18, 19, 21].map (fun n => view (exec (.rdreg n) onSu) (·.seq)) =
      [some (.respond 0 0x1194), some (.respond 0 0x116C), some (.respond 0 0xB), some (.respond 0 2),
        some (.respond 0 0x0B), some (.respond 0 1)] := by decide

/-- V52, V53. -/
theorem test_rdreg_status_and_reserved :
    view (exec (.rdreg 10) { State.reset with windowReady := true, overflowFlag := true })
      (fun t => (t.seq, t.windowReady, t.overflowFlag)) = some (.respond 0 3, true, true) ∧
    view (exec (.rdreg 22) .reset) (·.seq) = some (.respond 0 0) ∧
    view (exec (.rdreg 23) .reset) (·.strobes) = some [.response 1 0] ∧
    view (exec (.rdreg 255) .reset) (·.strobes) = some [.response 1 0] := by decide

/-- V56: event words on the command port; V57: `12 00000001` in a trace. -/
theorem test_ports :
    view (step { State.reset with schedule := [.command 0x1000000005#40] }) (fun t => (t.curFallCnt, t.strobes)) =
      some (0, [.response 1 0]) ∧
    view (step { State.reset with schedule := [.trace 0x1000000005#40] }) (fun t => (t.curFallCnt, t.strobes)) =
      some (1, []) ∧
    view (step { State.reset with schedule := [.trace 0x1200000001#40] }) (·.strobes) = none := by decide

/-- P3's micro-step 3 of command 1: `dly_req` with `Delay(ms, 10)`, then `dly_done`; a window may close between. -/
theorem test_delay :
    (inside onLdo (.delay (.softstart 4500)) []).turn.strobes = [.delay .ms 10] ∧
    view (step { inside onLdo (.delayDone (.softstart 4500)) [] with schedule := [.trace 0x1300000005#40] })
      (fun t => (t.windowReady, t.seq)) = some (true, .delayDone (.softstart 4500)) ∧
    view (step { inside onLdo (.delayDone (.softstart 4500)) [] with schedule := [.dlyDone] }) (·.seq) =
      some (.enableUpdate 4500) := by decide

/-! ## Witnesses: states and operands that meet the hypotheses of the statements, clause by clause -/

theorem witness_inv_reset : State.reset.Inv where
  cfgWf := by decide
  busy := by decide
  rawFits := by decide
  countFits := by decide
  rangeInBounds := by decide
  settingInBounds := by decide
  hysteresisBounded := by decide
  dacBounded := by decide
  dacPins := by decide
  muxFollowsIndex := by decide
  atPosition := And.intro (And.intro rfl (And.intro rfl (And.intro rfl rfl))) fun h => absurd rfl h

theorem witness_inv_onLdo : onLdo.Inv where
  cfgWf := by decide
  busy := by decide
  rawFits := by decide
  countFits := by decide
  rangeInBounds := by decide
  settingInBounds := by decide
  hysteresisBounded := by decide
  dacBounded := by decide
  dacPins := by decide
  muxFollowsIndex := by decide
  atPosition := And.intro (And.intro rfl (And.intro rfl (And.intro rfl rfl))) fun _ => by decide

theorem witness_inv_onSu : onSu.Inv where
  cfgWf := by decide
  busy := by decide
  rawFits := by decide
  countFits := by decide
  rangeInBounds := by decide
  settingInBounds := by decide
  hysteresisBounded := by decide
  dacBounded := by decide
  dacPins := by decide
  muxFollowsIndex := by decide
  atPosition := And.intro (And.intro rfl (And.intro rfl (And.intro rfl rfl))) fun _ => by decide

/-- A command in progress. -/
def responding : State := inside onLdo (.respond 0 0) []

theorem witness_inv_responding : responding.Inv where
  cfgWf := by decide
  busy := by decide
  rawFits := by decide
  countFits := by decide
  rangeInBounds := by decide
  settingInBounds := by decide
  hysteresisBounded := by decide
  dacBounded := by decide
  dacPins := by decide
  muxFollowsIndex := by decide
  atPosition := And.intro (And.intro rfl (And.intro rfl (And.intro rfl rfl))) fun _ => by decide

/-- A ready window with the count at the threshold (V19). -/
theorem witness_inv_window : (window 1 1 50001 2).Inv where
  cfgWf := by decide
  busy := by decide
  rawFits := by decide
  countFits := by decide
  rangeInBounds := by decide
  settingInBounds := by decide
  hysteresisBounded := by decide
  dacBounded := by decide
  dacPins := by decide
  muxFollowsIndex := by decide
  atPosition := And.intro (And.intro rfl (And.intro rfl (And.intro rfl rfl))) fun h => absurd rfl h

theorem witness_DecodeOfEncodeIsTheInstruction :
    (Instr.captureF 0xFFFF).wf .testVector = true ∧ (Instr.captureR 0).wf .testVector = true ∧
    (Instr.winclose 0xFFFF).wf .testVector = true ∧ (Instr.vbiasUpdate 0xFFFF).wf .testVector = true := by decide

theorem witness_DecodedWordIsItsEncoding : decode .testVector 0x500000000F#40 = .instr (.rdreg 15) := by decide

theorem witness_ReservedOpcodesAreExactlyThoseListed :
    ([0x00, 0x0F, 0x14, 0x1F, 0x23, 0x2F, 0x33, 0x3F, 0x43, 0x4F, 0x51, 0xFF] : List U8).all
      (fun op => decode .testVector (makeWord op 0) = .reservedOpcode (opField (makeWord op 0))) = true ∧
    ([0x10, 0x13, 0x20, 0x22, 0x30, 0x32, 0x40, 0x42, 0x50] : List U8).all
      (fun op => decode .testVector (makeWord op 0) ≠ .reservedOpcode (opField (makeWord op 0))) = true := by decide

theorem witness_StepRunsTheDecodedInstruction :
    State.reset.cfg.wf = true ∧ decode State.reset.cfg 0x500000000F#40 = .instr (.rdreg 15) ∧
    { State.reset with schedule := [.trace 0x500000000F#40] }.schedule = [.trace 0x500000000F#40] ∧
    { State.reset with schedule := [.command 0x500000000F#40] }.schedule = [.command 0x500000000F#40] ∧
    (Instr.rdreg 15).isEvent = false := by decide

theorem witness_IllFormedEventWordIsRefused :
    decode State.reset.cfg 0x1200000001#40 = .reservedOperand 0x12 ∧ 0x10#8 ≤ 0x12#8 ∧ 0x12#8 ≤ 0x13#8 ∧
    decode State.reset.cfg 0x1000010000#40 = .reservedOperand 0x10 ∧
    decode State.reset.cfg 0x1300010000#40 = .reservedOperand 0x13 := by decide

theorem witness_NonCommandsOnThePortAreAnsweredIllegal :
    State.reset.Idle ∧
    (∀ i : Instr, decode State.reset.cfg 0x1200000000#40 = .instr i → i.isEvent = true) ∧
    (isEventOpcode (opField 0x0000000000#40) = false ∧ ∀ i : Instr, decode State.reset.cfg 0x0000000000#40 ≠ .instr i) ∧
    (isEventOpcode (opField 0x3000000100#40) = false ∧
      ∀ i : Instr, decode State.reset.cfg 0x3000000100#40 ≠ .instr i) := by
  have h1 : decode State.reset.cfg 0x1200000000#40 = .instr .capovf := by decide
  have h2 : decode State.reset.cfg 0x0000000000#40 = .reservedOpcode 0 := by decide
  have h3 : decode State.reset.cfg 0x3000000100#40 = .reservedOperand 0x30 := by decide
  refine ⟨⟨rfl, rfl⟩, fun i h => ?_, ⟨by decide, fun i h => ?_⟩, ⟨by decide, fun i h => ?_⟩⟩
  · rw [h1] at h
    cases h
    rfl
  · rw [h2] at h
    cases h
  · rw [h3] at h
    cases h

/-- The port's clause, the program's clause at a reserved opcode and at a command's, and the clause on `exec`. -/
theorem witness_BusyPortIgnoresEveryWord :
    responding.fgBusy = true ∧ responding.cfg.wf = true ∧ Instr.capExit.isEvent = false ∧
    { responding with schedule := [.command 0#40] }.schedule = [.command 0#40] ∧
    { responding with schedule := [.trace 0#40] }.schedule = [.trace 0#40] ∧ isEventOpcode (opField 0#40) = false ∧
    { responding with schedule := [.trace 0x2100000000#40] }.schedule = [.trace 0x2100000000#40] ∧
    isEventOpcode (opField 0x2100000000#40) = false := by decide

theorem witness_ForegroundTakesItsTurn :
    State.reset.schedule = [] ∧
    { State.reset with schedule := [.turn] }.schedule = Progress.turn.input :: [] ∧
    { State.reset with schedule := [.adcRsp 5] }.schedule = (Progress.adcRsp 5).input :: [] ∧
    { State.reset with schedule := [.dlyDone] }.schedule = Progress.dlyDone.input :: [] ∧
    { responding with schedule := [.await] }.fgBusy = true ∧ { State.reset with schedule := [.await] }.fgBusy = false := by
  decide

theorem witness_ResetInputGivesTheResetState :
    responding.cfg.wf = true ∧ { responding with schedule := [.rst, .turn] }.schedule = .rst :: [.turn] := by decide

/-- Both ends of the numbers: 0 and 22. -/
theorem witness_ResetValuesAreThoseOfTheTable :
    State.reset.readRegister 0 = some 0 ∧ State.reset.readRegister 22 = some 0 ∧
    State.reset.readRegister 23 = none := by decide

theorem witness_ResetMeetsTheInvariant : Cfg.testVector.wf = true := by decide

theorem witness_StepKeepsTheInvariant : onSu.Inv ∧ ∃ t : State, step onSu = .next t :=
  ⟨witness_inv_onSu, onSu, by rfl⟩

theorem witness_IllFormedConfigurationIsRefused :
    { State.reset with cfg := { Cfg.testVector with dacMax := 0 } }.cfg.wf = false := by decide

theorem witness_StepAnswersNextUnlessTheTraceIsIllFormed :
    State.reset.cfg.wf = true ∧ { State.reset with schedule := [.trace 0x1200000001#40] }.cfg.wf = true := by decide

theorem witness_ConfigurationNeverChanges : ∃ t : State, step State.reset = .next t := ⟨State.reset, by rfl⟩

theorem witness_WindowCountIsTheEdgesModuloTheCounter :
    State.reset.cfg.wf = true ∧ FitsIn State.reset.cfg.counterBits 0xFFFF#32 ∧
    { State.reset with prevRawCount := 0xFFFF }.rawAfter 0 = 0xFFFF ∧
    { State.reset with prevRawCount := 0xFFFF }.rawAfter 1 = 0 ∧
    { State.reset with prevRawCount := 0xFFFF }.rawAfter 0x10000 = 0xFFFF := by decide

theorem witness_OverflowsDiscardExactlyOneCapture :
    State.reset.cfg.wf = true ∧ (Instr.captureF 0x10).wf State.reset.cfg = true ∧
    (Instr.captureR 0xFFFF).wf State.reset.cfg = true ∧ FitsIn State.reset.cfg.captureBits 0xFFFF#32 := by decide

theorem witness_EventsChangeOnlyTheAccumulator :
    Instr.capovf.isEvent = true ∧ (Instr.captureF 0).isEvent = true ∧ (Instr.captureR 0).isEvent = true ∧
    (Instr.winclose 0).isEvent = true := by decide

/-- The settings next to the bound: 2 is in range, 3 is not. -/
theorem witness_CapEnterZeroesAndSelectsOrRefuses :
    State.reset.Idle ∧ (2#8).toNat < State.reset.cfg.numFreqSettings ∧
    State.reset.cfg.numFreqSettings ≤ (3#8).toNat := ⟨⟨rfl, rfl⟩, by decide, by decide⟩

theorem witness_CapExitDisablesTheMux : State.reset.Idle := ⟨rfl, rfl⟩

theorem witness_RangePollWithoutWindowIsANoop : State.reset.Idle ∧ State.reset.windowReady = false :=
  ⟨⟨rfl, rfl⟩, rfl⟩

/-- The estimate of a state, as the statements write it (R143). -/
def estimate (s : State) : U32 := s.oscFreqCnt <<< s.cfg.freqShift s.freqSetting

/-- What a poll statement asks of the state before its condition on the estimate. -/
def ReadyToPoll (s : State) : Prop := s.cfg.wf = true ∧ s.Idle ∧ s.windowReady = true

theorem readyToPoll_window (setting index : Nat) (osc count : U32) : ReadyToPoll (window setting index osc count) :=
  ⟨smoke_testVector_is_wellFormed, ⟨rfl, rfl⟩, rfl⟩

/-- Just above the high bound, the count one short of the threshold and at it (V11, V19); V10 is at the bound. -/
theorem witness_RangePollTooFastCountsOrMovesUp :
    ∀ s ∈ [window 1 1 50001 1, window 1 1 50001 2], ReadyToPoll s ∧ s.cfg.freqHighBound < estimate s ∧
      s.currentRangeIndex + 1 < s.cfg.numRanges := by
  intro s hs
  rcases List.mem_cons.1 hs with rfl | hs
  · exact ⟨readyToPoll_window .., by decide, by decide⟩
  · rw [List.mem_singleton.1 hs]
    exact ⟨readyToPoll_window .., by decide, by decide⟩

/-- Just below the low bound, the count one short of the threshold and at it (V13); V12 is at the bound. -/
theorem witness_RangePollTooSlowCountsOrMovesDown :
    ∀ s ∈ [window 1 1 2499 1, window 1 1 2499 2], ReadyToPoll s ∧ estimate s < s.cfg.freqLowBound ∧
      0 < s.currentRangeIndex := by
  intro s hs
  rcases List.mem_cons.1 hs with rfl | hs
  · exact ⟨readyToPoll_window .., by decide, by decide⟩
  · rw [List.mem_singleton.1 hs]
    exact ⟨readyToPoll_window .., by decide, by decide⟩

/-- In band at each bound (V12, V10), above at the highest range (V15a), below at the lowest (V15). -/
theorem witness_RangePollOtherwiseZeroesTheCounter :
    (ReadyToPoll (window 1 1 2500 1) ∧ estimate (window 1 1 2500 1) = 10000 ∧ estimate (window 1 1 50000 1) = 200000 ∧
      Cfg.testVector.freqLowBound = 10000 ∧ Cfg.testVector.freqHighBound = 200000) ∧
    (ReadyToPoll (window 2 3 0x4000 2) ∧ Cfg.testVector.freqHighBound < estimate (window 2 3 0x4000 2) ∧
      (window 2 3 0x4000 2).currentRangeIndex = Cfg.testVector.numRanges - 1) ∧
    (ReadyToPoll (window 0 0 100 1) ∧ estimate (window 0 0 100 1) < Cfg.testVector.freqLowBound ∧
      (window 0 0 100 1).currentRangeIndex = 0) :=
  ⟨⟨readyToPoll_window .., by decide, by decide, by decide, by decide⟩,
    ⟨readyToPoll_window .., by decide, by decide⟩, ⟨readyToPoll_window .., by decide, by decide⟩⟩

/-- Each sample and delay position, before the request and after it; the lengths at both sides of the port's width. -/
theorem witness_SampleIsARequestThenAnAnswer :
    (inside onLdo (.sample .quench) []).seq = .sample .quench ∧ (inside onLdo (.answer .quench) []).seq = .answer .quench ∧
    (Oracle.mk [37] none 0).answer = 37 ∧ ∀ j : SamplePoint, State.reset.seq ≠ .answer j :=
  ⟨rfl, rfl, rfl, fun _ h => (by cases h)⟩

theorem witness_DelayIsARequestThenItsEnd :
    (inside onLdo (.delay (.softstart 1)) []).seq = .delay (.softstart 1) ∧
    (inside onLdo (.delayDone (.softstart 1)) []).seq = .delayDone (.softstart 1) ∧
    ((DelayPoint.softstart 1).setting { Cfg.testVector with tSoftstart := ⟨.us, 2 ^ 32 - 1⟩ }).n < 2 ^ 32 ∧
    ∀ e : DelayPoint, State.reset.seq ≠ .delayDone e := ⟨rfl, rfl, by decide, fun _ h => (by cases h)⟩

theorem witness_RegistersReadTheirValues :
    { State.reset with currentRangeIndex := 2 ^ 32 - 1 }.currentRangeIndex < 2 ^ 32 ∧ State.reset.freqSetting < 2 ^ 32 := by
  decide

theorem witness_RangeMovesOneStepAndOnlyPastTheThreshold :
    (window 1 1 50001 2).Inv ∧ ∃ t : State, exec (.rangePoll false) (window 1 1 50001 2) = .next t ∧
      t.currentRangeIndex ≠ (window 1 1 50001 2).currentRangeIndex :=
  ⟨witness_inv_window, _, rfl, by decide⟩

/-- The start of P2. -/
def secondHighest : State := { State.reset with
  freqSetting := 2, currentRangeIndex := 2, pins := { Pins.reset with rselEn := true, rselId := 0x12 } }

theorem witness_inv_secondHighest : secondHighest.Inv where
  cfgWf := by decide
  busy := by decide
  rawFits := by decide
  countFits := by decide
  rangeInBounds := by decide
  settingInBounds := by decide
  hysteresisBounded := by decide
  dacBounded := by decide
  dacPins := by decide
  muxFollowsIndex := by decide
  atPosition := And.intro (And.intro rfl (And.intro rfl (And.intro rfl rfl))) fun h => absurd rfl h

/-- P2's windows; the number of windows at its boundaries: 0, the threshold, and one more. -/
theorem witness_HighWindowsMoveTheRangeExactlyOnce :
    secondHighest.Inv ∧ secondHighest.Idle ∧ secondHighest.consecutiveOutOfBandCount = 0 ∧
    0x4000 < 2 ^ secondHighest.cfg.counterBits ∧
    secondHighest.cfg.freqHighBound < (BitVec.ofNat 32 0x4000) <<< secondHighest.cfg.freqShift secondHighest.freqSetting ∧
    secondHighest.currentRangeIndex + 1 < secondHighest.cfg.numRanges ∧
    (∀ k ∈ [0, 2, 3], k ≤ secondHighest.cfg.hystThreshold.toNat + 1) ∧
    2 ≤ secondHighest.cfg.hystThreshold.toNat ∧ 3 = secondHighest.cfg.hystThreshold.toNat + 1 :=
  ⟨witness_inv_secondHighest, ⟨rfl, rfl⟩, rfl, by decide, by decide, by decide, by decide, by decide, by decide⟩

theorem witness_AWindowIsConsumedAtMostOnce :
    State.reset.windowReady = false ∧
    view (step { State.reset with schedule := [.trace (encode (.winclose 1))] }) (·.windowReady) = some true ∧
    (window 1 1 50001 2).fgBusy = false := by decide

theorem witness_CurEnterConfiguresTheChain :
    State.reset.Idle ∧ State.reset.adcCfg ≠ ⟨State.reset.cfg.currentCh, 3⟩ ∧
    { State.reset with adcCfg := ⟨2, 3⟩ }.adcCfg = ⟨State.reset.cfg.currentCh, 3⟩ :=
  ⟨⟨rfl, rfl⟩, by decide, by decide⟩

theorem witness_CurReadSamplesOnce :
    State.reset.Idle ∧ State.reset.adcCfg ≠ ⟨State.reset.cfg.currentCh, State.reset.curGain⟩ ∧
    { State.reset with adcCfg := ⟨2, 0⟩ }.adcCfg = ⟨State.reset.cfg.currentCh, State.reset.curGain⟩ :=
  ⟨⟨rfl, rfl⟩, by decide, by decide⟩

theorem witness_CurExitTurnsTheAmplifierOff : State.reset.Idle := ⟨rfl, rfl⟩

theorem witness_VbiasEnableResetsThenUpdates : State.reset.Idle ∧ State.reset.sourceMode = .off := ⟨⟨rfl, rfl⟩, rfl⟩

theorem witness_ServoPreconditionsRefuse :
    onLdo.Idle ∧ onLdo.sourceMode ≠ .off ∧ State.reset.Idle ∧ State.reset.sourceMode = .off :=
  ⟨⟨rfl, rfl⟩, by decide, ⟨rfl, rfl⟩, rfl⟩

/-- The request at the minimum itself, and above it. -/
theorem witness_VbiasUpdateRepeatIsANoop :
    onLdo.Idle ∧ onLdo.sourceMode ≠ .off ∧ onLdo.cfg.vbiasMinMv ≤ onLdo.requestedVoltageMv ∧
    { onLdo with requestedVoltageMv := 1000 }.cfg.vbiasMinMv ≤ { onLdo with requestedVoltageMv := 1000 }.requestedVoltageMv :=
  ⟨⟨rfl, rfl⟩, by decide, by decide, by decide⟩

/-- 999 is below the minimum and 1000 is not; both cases of the recorded request. -/
theorem witness_VbiasUpdateClampsToTheMinimum :
    onLdo.Idle ∧ onLdo.sourceMode ≠ .off ∧ 999#16 < onLdo.cfg.vbiasMinMv ∧ ¬ 1000#16 < onLdo.cfg.vbiasMinMv ∧
    onLdo.requestedVoltageMv ≠ onLdo.cfg.vbiasMinMv ∧
    { onLdo with requestedVoltageMv := 1000 }.requestedVoltageMv = onLdo.cfg.vbiasMinMv :=
  ⟨⟨rfl, rfl⟩, by decide, by decide, by decide, by decide, by decide⟩

theorem witness_VbiasUpdateStartsASearch :
    onLdo.Idle ∧ onLdo.sourceMode ≠ .off ∧ onLdo.cfg.vbiasMinMv ≤ 1000#16 ∧ 1000#16 ≠ onLdo.requestedVoltageMv ∧
    1000#16 < onLdo.requestedVoltageMv ∧ onLdo.requestedVoltageMv < 2501#16 :=
  ⟨⟨rfl, rfl⟩, by decide, by decide, by decide, by decide, by decide⟩

/-- The threshold 4000 from both sides (V27, V28), each position, crossing and not. -/
theorem witness_SourceSwitchesAtTheActivationThreshold :
    (inside onSu (.decEntry ⟨3999, 0, false, true, 0⟩) []).seq = .decEntry ⟨3999, 0, false, true, 0⟩ ∧
    onSu.cfg.stepupThresholdMv ≤ onSu.requestedVoltageMv ∧ 3999#16 < onSu.cfg.stepupThresholdMv ∧
    ¬ 4000#16 < onSu.cfg.stepupThresholdMv ∧
    (inside onLdo (.incEntry ⟨4000, 0, false, true, 0⟩) []).seq = .incEntry ⟨4000, 0, false, true, 0⟩ ∧
    onLdo.requestedVoltageMv < onLdo.cfg.stepupThresholdMv ∧ onLdo.cfg.stepupThresholdMv ≤ 4000#16 ∧
    ¬ onLdo.cfg.stepupThresholdMv ≤ 3999#16 := by decide

/-- The last step that the bound permits (V29). -/
theorem witness_DecreasingSearchIteration :
    (inside { onLdo with dacCode := 14 } (.decLoop ⟨2000, 2480, false, true, 0⟩) [1800]).dacCode < onLdo.cfg.dacMax ∧
    1800#16 = onLdo.cfg.mvOf (inside onLdo (.decLoop ⟨2000, 2480, false, true, 0⟩) [1800]).oracle.answer := by decide

/-- The last step that the bound permits (V35). -/
theorem witness_IncreasingSearchIteration :
    0 < (inside { onLdo with dacCode := 1 } (.incLoop ⟨3000, 1500, false, true, 0⟩) [1600]).dacCode ∧
    1600#16 = onLdo.cfg.mvOf (inside onLdo (.incLoop ⟨3000, 1500, false, true, 0⟩) [1600]).oracle.answer := by decide

/-- The three ways to end (V23, V35). -/
theorem witness_SearchEndRecordsAndResponds :
    (inside onLdo (.searchDone ⟨2000, 1990, false, false, 0⟩) []).seq = .searchDone ⟨2000, 1990, false, false, 0⟩ ∧
    onLdo.cfg.dacMax ≤ (inside { onLdo with dacCode := 15 } (.decLoop ⟨2000, 2480, false, true, 0⟩) []).dacCode ∧
    (inside { onLdo with dacCode := 0 } (.incLoop ⟨3000, 1600, false, true, 0⟩) []).dacCode = 0 := by decide

theorem witness_UpdateAndEnableAlwaysEnd :
    onSu.Inv ∧ onSu.Idle ∧ onSu.sourceMode ≠ .off ∧ State.reset.Inv ∧ State.reset.Idle ∧
    State.reset.sourceMode = .off ∧
    1000#16 = (if 999#16 < onSu.cfg.vbiasMinMv then onSu.cfg.vbiasMinMv else 999#16) ∧
    1000#16 = (if 1000#16 < onSu.cfg.vbiasMinMv then onSu.cfg.vbiasMinMv else 1000#16) :=
  ⟨witness_inv_onSu, ⟨rfl, rfl⟩, by decide, witness_inv_reset, ⟨rfl, rfl⟩, rfl, by decide, by decide⟩

/-- V31: 100 is not under the threshold, 99 is. -/
def draining : State := { onLdo with oracle := { tape := [100, 99], forever := none, draws := 0 } }

theorem witness_VbiasDisableQuenchesAndEnds :
    draining.Idle ∧ draining.cfg.quenchThresholdMv ≤ draining.cfg.mvOf (draining.oracle.after 0).answer ∧
    99#16 = draining.cfg.mvOf (draining.oracle.after 1).answer ∧ 99#16 < draining.cfg.quenchThresholdMv :=
  ⟨⟨rfl, rfl⟩, by decide, by decide, by decide⟩

/-- V38 with the lowest code that hangs; an event, a command, an answer and a turn are scheduled. -/
def hanging : State := { State.reset with
  fgBusy := true, seq := .sample .quench, adcCfg := ⟨1, 0⟩, pins := { Pins.reset with quenchEn := true }
  oracle := { tape := [], forever := some 100, draws := 0 }
  schedule := [.trace 0x1300000005#40, .command 0x4200000000#40, .adcRsp 100, .turn] }

theorem hanging_after (j : Nat) : hanging.oracle.after j = hanging.oracle := by
  induction j with
  | zero => rfl
  | succ j ih => exact ih

theorem witness_VbiasDisableCanWaitForEver :
    hanging.cfg.wf = true ∧ hanging.fgBusy = true ∧ hanging.seq = .sample .quench ∧
    { hanging with seq := .answer .quench }.seq = .answer .quench ∧ hanging.pins.quenchEn = true ∧
    (∀ j : Nat, hanging.cfg.quenchThresholdMv ≤ hanging.cfg.mvOf (hanging.oracle.after j).answer) ∧
    (∀ x ∈ hanging.schedule, x.LeavesWaiting hanging.cfg) := by
  refine ⟨by decide, rfl, rfl, rfl, rfl, fun j => ?_, fun x hx => ?_⟩
  · rw [hanging_after]
    decide
  · simp only [hanging, List.mem_cons, List.not_mem_nil, or_false] at hx
    rcases hx with rfl | rfl | rfl | rfl
    · exact ⟨by decide, fun _ hc => (by cases hc), fun w hw _ => ⟨.winclose 5, by cases hw; decide⟩⟩
    · exact ⟨by decide, fun _ hc => (by cases hc), fun _ hw _ => (by cases hw)⟩
    · exact ⟨by decide, fun _ hc => (by cases hc; decide), fun _ hw _ => (by cases hw)⟩
    · exact ⟨by decide, fun _ hc => (by cases hc), fun _ hw _ => (by cases hw)⟩

theorem witness_ArbitrationAndPinsBetweenCommands :
    State.reset.Inv ∧ State.reset.seq.isServo = false ∧ State.reset.sourceMode = .off ∧
    onLdo.Inv ∧ onLdo.seq.isServo = false ∧ onLdo.sourceMode = .ldoRegulated ∧
    onSu.Inv ∧ onSu.seq.isServo = false ∧ onSu.sourceMode = .stepUpConverter :=
  ⟨witness_inv_reset, rfl, rfl, witness_inv_onLdo, rfl, rfl, witness_inv_onSu, rfl, rfl⟩

/-- The numbers 22 and 23, and the lowest word with a reserved operand bit (V54). -/
theorem witness_RdregReadsOrRefuses :
    State.reset.Idle ∧ (22#8).toNat ≤ 22 ∧ 23 ≤ (23#8).toNat ∧ State.reset.cfg.wf = true ∧
    opField 0x5000000100#40 = 0x50 ∧ 256 ≤ (operandField 0x5000000100#40).toNat :=
  ⟨⟨rfl, rfl⟩, by decide, by decide, by decide, by decide, by decide⟩

theorem witness_EventsCommuteWithServoAndCurrentSteps :
    Instr.capovf.isEvent = true ∧ hanging.seq.isServo = true ∧
    (inside .reset (.answer (.curRead 4)) [0x123]).seq.isCurrent = true ∧
    [Instr.curEnter 3, .curRead 4, .curExit, .vbiasEnable 1000, .vbiasUpdate 1200, .vbiasDisable].map Instr.opcode =
      [0x30, 0x31, 0x32, 0x40, 0x41, 0x42] := by decide

theorem witness_EveryCommandEndsWithOneResponse :
    responding.Inv ∧ responding.fgBusy = true ∧ State.reset.Inv ∧ State.reset.fgBusy = false ∧
    Instr.capExit.isEvent = false :=
  ⟨witness_inv_responding, rfl, witness_inv_reset, rfl, rfl⟩

theorem witness_ForegroundLeavesTheAccumulator :
    Instr.vbiasDisable.isEvent = false ∧ (∀ k : U8, Instr.vbiasDisable ≠ .capEnter k) ∧
    (∀ v : Bool, Instr.vbiasDisable ≠ .rangePoll v) :=
  ⟨rfl, fun _ h => (by cases h), fun _ h => (by cases h)⟩

theorem witness_OnlyServoCommandsWriteServoState :
    responding.seq.isServo = false ∧ (∀ mv : U16, Instr.capExit ≠ .vbiasEnable mv) ∧
    (∀ mv : U16, Instr.capExit ≠ .vbiasUpdate mv) ∧ Instr.capExit ≠ .vbiasDisable :=
  ⟨rfl, fun _ h => (by cases h), fun _ h => (by cases h), by decide⟩

theorem witness_ServoAndCurrentFrames :
    hanging.seq.isServo = true ∧ (inside .reset (.answer (.curRead 4)) [0x123]).seq.isCurrent = true ∧
    Instr.vbiasDisable.opcode = 0x42 ∧ Instr.curExit.opcode = 0x32 := by decide

end Sys2Proof.Tests
end

section
/-! Proofs about the scope of the model (00_scope.md). -/

namespace Sys2Proof.Machine

open Sys2Proof

/-- The companion of `step_of_wf`: the other branch of the guard of R7. -/
theorem step_of_not_wf (s : State) (h : s.cfg.wf = false) : step s = .refused .illFormedConfiguration := by
  simp [step, h]

/-- Settles O14: the guard on the configuration stands before every transition. -/
theorem illFormedConfigurationIsRefused : Obligations.IllFormedConfigurationIsRefused := step_of_not_wf

end Sys2Proof.Machine
end

section
/-! Proofs about the state: every step keeps the invariant of the block (10_state.md R25 to R43, 43_bias_servo.md R192).
The invariant is taken apart into bounds, which do not look at the sequencer, and what holds at the sequencer's
position. The bounds and the predicates of Safety.lean are plain conjunctions of facts about fields, so that a record
update which writes none of their fields keeps them by computation. -/

namespace Sys2Proof

/-! ## The decoder reads well-formed operations only -/

theorem checkOperand_eq_instr_iff (op : U8) (bits : Nat) (x : U32) (i j : Instr) :
    checkOperand op bits x i = .instr j ↔ FitsIn bits x ∧ i = j := by
  by_cases h : FitsIn bits x <;> simp [checkOperand, h]

theorem wf_of_decode {c : Cfg} {w : OpWord} {i : Instr} (h : decode c w = .instr i) : i.wf c = true := by
  unfold decode decodeFields at h
  split at h
  case h_15 => cases h
  all_goals
    obtain ⟨hfits, rfl⟩ := (checkOperand_eq_instr_iff ..).1 h
    simp [Instr.wf, hfits]

/-! ## The source for a voltage (R40) -/

namespace Cfg

theorem sourceFor_of_lt {c : Cfg} {mv : U16} (h : mv < c.stepupThresholdMv) : c.sourceFor mv = .ldoRegulated :=
  if_pos h

theorem sourceFor_of_le {c : Cfg} {mv : U16} (h : c.stepupThresholdMv ≤ mv) : c.sourceFor mv = .stepUpConverter :=
  if_neg (BitVec.not_lt.2 h)

theorem sourceFor_eq_iff (c : Cfg) (mv : U16) :
    (c.sourceFor mv = .ldoRegulated ↔ mv < c.stepupThresholdMv) ∧
      (c.sourceFor mv = .stepUpConverter ↔ c.stepupThresholdMv ≤ mv) := by
  by_cases h : c.stepupThresholdMv ≤ mv
  · have hnlt : ¬ mv < c.stepupThresholdMv := BitVec.not_lt.2 h
    simp [sourceFor_of_le h, h, hnlt]
  · have hlt : mv < c.stepupThresholdMv := BitVec.not_le.1 h
    simp [sourceFor_of_lt hlt, h, hlt]

theorem sourceFor_ne_off (c : Cfg) (mv : U16) : c.sourceFor mv ≠ .off := by
  unfold sourceFor
  split <;> nofun

/-- Where the threshold does not lie between two voltages, one source serves both (R177, R180). -/
theorem sourceFor_eq_of_not_crossed {c : Cfg} {lo hi : U16} (hlt : lo < hi)
    (h : ¬ (c.stepupThresholdMv ≤ hi ∧ lo < c.stepupThresholdMv)) : c.sourceFor lo = c.sourceFor hi := by
  by_cases hhi : c.stepupThresholdMv ≤ hi
  · have hlo : c.stepupThresholdMv ≤ lo := BitVec.not_lt.1 fun hl => h ⟨hhi, hl⟩
    rw [sourceFor_of_le hhi, sourceFor_of_le hlo]
  · have hhi' : hi < c.stepupThresholdMv := BitVec.not_le.1 hhi
    rw [sourceFor_of_lt hhi', sourceFor_of_lt (BitVec.lt_trans hlt hhi')]

end Cfg

namespace Machine

/-- A DAC write enables the DAC, which is on in every mode but Off (R47, R192). -/
theorem PinsFollow.enableDac {m : SourceMode} {p : Pins} (h : PinsFollow m p) (hm : m ≠ .off) (code : U16) :
    PinsFollow m { p with dacCode := code, dacEn := true } := by
  cases m with
  | off => exact absurd rfl hm
  | ldoRegulated =>
    obtain ⟨hldo, hstepup, -, hquench⟩ := h
    exact ⟨hldo, hstepup, rfl, hquench⟩
  | stepUpConverter =>
    obtain ⟨hldo, hstepup, -, hquench⟩ := h
    exact ⟨hldo, hstepup, rfl, hquench⟩

/-- The quench path is off in every mode (R192). -/
theorem PinsFollow.quenchEn_eq_false {m : SourceMode} {p : Pins} (h : PinsFollow m p) : p.quenchEn = false := by
  cases m <;>
    obtain ⟨-, -, -, hquench⟩ := h <;>
    exact hquench

/-! ## The invariant in two parts -/

/-- R25, R28: both fit the counter. -/
def State.AccInBounds (s : State) : Prop :=
  FitsIn s.cfg.counterBits s.prevRawCount ∧ FitsIn s.cfg.counterBits s.oscFreqCnt

/-- R31 to R34, and the mux of R149. -/
def State.RangeInBounds (s : State) : Prop :=
  s.currentRangeIndex < s.cfg.numRanges ∧ s.freqSetting < s.cfg.numFreqSettings ∧
    s.consecutiveOutOfBandCount ≤ s.cfg.hystThreshold ∧
    (s.pins.rselEn = true → s.pins.rselId = s.cfg.rangeId s.currentRangeIndex)

/-- R37, R50. -/
def State.DacInBounds (s : State) : Prop := s.dacCode ≤ s.cfg.dacMax ∧ s.pins.dacCode = s.dacCode

/-- The part of the invariant that does not look at the sequencer. -/
def State.InBounds (s : State) : Prop :=
  s.cfg.wf = true ∧ s.AccInBounds ∧ s.RangeInBounds ∧ s.DacInBounds

/-- What holds from the acceptance of a command to its first write. -/
def State.Accepted (s : State) : Prop := s.InBounds ∧ s.fgBusy = true ∧ s.Settled

namespace State

variable {s t : State} {l : Search} {f : U8} {v : U32} {m mv code : U16}

theorem inv_iff : s.Inv ↔ s.InBounds ∧ s.fgBusy = decide (s.seq ≠ .idle) ∧ s.AtPosition := by
  constructor
  · rintro ⟨hwf, hbusy, hraw, hcount, hrange, hsetting, hhyst, hdac, hpins, hmux, hpos⟩
    exact ⟨⟨hwf, ⟨hraw, hcount⟩, ⟨hrange, hsetting, hhyst, hmux⟩, hdac, hpins⟩, hbusy, hpos⟩
  · rintro ⟨⟨hwf, ⟨hraw, hcount⟩, ⟨hrange, hsetting, hhyst, hmux⟩, hdac, hpins⟩, hbusy, hpos⟩
    exact ⟨hwf, hbusy, hraw, hcount, hrange, hsetting, hhyst, hdac, hpins, hmux, hpos⟩

/-- The environment's inputs are not the block's. -/
theorem Inv.withSchedule (hs : s.Inv) (rest : List Input) : { s with schedule := rest }.Inv :=
  inv_iff.2 (inv_iff (s := s).1 hs)

theorem Inv.ofBusy (hb : t.InBounds) (hbusy : t.fgBusy = true) (hseq : t.seq ≠ .idle) (hpos : t.AtPosition) : t.Inv :=
  inv_iff.2 ⟨hb, by simp [hbusy, hseq], hpos⟩

theorem respond_inv (hb : s.InBounds) (hset : s.Settled) : (s.respond f v).Inv := inv_iff.2 ⟨hb, by simp, hset⟩

/-- The position's fact, with the position named. -/
theorem Inv.atSeq (hs : s.Inv) {q : Seq} (hq : s.seq = q) : (s.goto q).AtPosition := by
  subst hq
  exact hs.atPosition

/-- Outside servo commands the supply is settled. -/
theorem Inv.settled (hs : s.Inv) (h : s.seq.isServo = false) : s.Settled := by
  cases hq : s.seq with
  | idle => exact hs.atSeq hq
  | respond flags value => exact hs.atSeq hq
  | capEnterMux => exact hs.atSeq hq
  | curEnterConfigure g => exact (hs.atSeq hq).1
  | sample k =>
    cases k with
    | curRead a => exact (hs.atSeq hq).1
    | _ => simp [hq, Seq.isServo, SamplePoint.isServo] at h
  | answer k =>
    cases k with
    | curRead a => exact (hs.atSeq hq).1
    | _ => simp [hq, Seq.isServo, SamplePoint.isServo] at h
  | _ => simp [hq, Seq.isServo] at h

theorem resetWith_inv (c : Cfg) (h : c.wf = true) : (resetWith c).Inv where
  cfgWf := h
  busy := rfl
  rawFits := Nat.two_pow_pos _
  countFits := Nat.two_pow_pos _
  rangeInBounds := c.numRanges_pos h
  settingInBounds := c.numFreqSettings_pos h
  hysteresisBounded := Nat.zero_le _
  dacBounded := Nat.zero_le _
  dacPins := rfl
  muxFollowsIndex := nofun
  atPosition := ⟨⟨rfl, rfl, rfl, rfl⟩, fun hm => absurd rfl hm⟩

theorem resetInput_inv (hs : s.Inv) : s.resetInput.Inv :=
  inv_iff.2 (inv_iff (s := resetWith s.cfg).1 (resetWith_inv s.cfg hs.cfgWf))

/-! ## Events -/

/-- An event writes nothing that the position of the sequencer speaks of. -/
theorem capture_inv (hs : s.Inv) (pol : Bool) (w : U32) : (s.capture pol w).Inv := by
  unfold capture
  split
  · exact inv_iff.2 (inv_iff (s := s).1 hs)
  · cases pol <;> exact inv_iff.2 (inv_iff (s := s).1 hs)

theorem captureOverflow_inv (hs : s.Inv) : s.captureOverflow.Inv := inv_iff.2 (inv_iff (s := s).1 hs)

/-- R125: one wraparound at most, so the count is below `2^COUNTER_BITS`. -/
theorem windowCount_lt {bits : Nat} {prev raw : U32} (hprev : FitsIn bits prev) (hraw : FitsIn bits raw) :
    windowCount bits prev raw < 2 ^ bits := by
  unfold windowCount
  split
  · next h =>
    have hlt : raw.toNat < prev.toNat := h
    omega
  · exact Nat.lt_of_le_of_lt (Nat.sub_le _ _) hraw

theorem closeWindow_inv (hs : s.Inv) {raw : U32} (hraw : FitsIn s.cfg.counterBits raw) : (s.closeWindow raw).Inv := by
  obtain ⟨⟨hwf, ⟨hprev, -⟩, hrange, hdac⟩, hseq⟩ := inv_iff.1 hs
  have hcount : FitsIn s.cfg.counterBits (BitVec.ofNat 32 (windowCount s.cfg.counterBits s.prevRawCount raw)) :=
    Nat.lt_of_le_of_lt (Nat.mod_le _ _) (windowCount_lt hprev hraw)
  exact inv_iff.2 ⟨⟨hwf, ⟨hraw, hcount⟩, hrange, hdac⟩, hseq⟩

/-! ## The first micro-steps of the commands that leave the servo alone -/

theorem Accepted.respond_inv (h : s.Accepted) : (s.respond f v).Inv := by
  obtain ⟨hb, -, hset⟩ := h
  exact State.respond_inv hb hset

/-- A command whose response is next has left the supply settled. -/
theorem Accepted.goto_respond_inv (h : s.Accepted) : (s.goto (.respond f v)).Inv := by
  obtain ⟨hb, hbusy, hset⟩ := h
  exact .ofBusy hb hbusy nofun hset

theorem capEnterFirst_inv (h : s.Accepted) (k : U8) : (s.capEnterFirst k).Inv := by
  unfold capEnterFirst
  split
  · exact h.respond_inv
  · next hk =>
    obtain ⟨⟨hwf, hacc, ⟨hindex, -, -, hmux⟩, hdac⟩, hbusy, hset⟩ := h
    exact .ofBusy ⟨hwf, hacc, ⟨hindex, Nat.lt_of_not_le hk, Nat.zero_le _, hmux⟩, hdac⟩ hbusy nofun hset

theorem capExitFirst_inv (h : s.Accepted) : s.capExitFirst.Inv := by
  obtain ⟨⟨hwf, hacc, ⟨hindex, hsetting, hhyst, -⟩, hdac⟩, hbusy, hset⟩ := h
  exact .ofBusy ⟨hwf, hacc, ⟨hindex, hsetting, hhyst, nofun⟩, hdac⟩ hbusy nofun hset

theorem curEnterFirst_inv (h : s.Accepted) (g : U8) : (s.curEnterFirst g).Inv := by
  obtain ⟨hb, hbusy, hset⟩ := h
  exact .ofBusy hb hbusy nofun ⟨hset, rfl⟩

theorem curReadFirst_inv (h : s.Accepted) (a : U8) : (s.curReadFirst a).Inv := by
  obtain ⟨hb, hbusy, hset⟩ := h
  rw [curReadFirst, adcConfigure_eq]
  exact .ofBusy hb hbusy nofun ⟨hset, rfl⟩

theorem curExitFirst_inv (h : s.Accepted) : s.curExitFirst.Inv := by
  obtain ⟨hb, hbusy, hset⟩ := h
  exact .ofBusy hb hbusy nofun hset

theorem rdregFirst_inv (h : s.Accepted) (n : U8) : (s.rdregFirst n).Inv := by
  unfold rdregFirst
  split
  · exact h.goto_respond_inv
  · exact h.respond_inv

/-! ## The poll of the range controller -/

theorem Accepted.moveRange (h : s.Accepted) {i : Nat} (hi : i < s.cfg.numRanges) : (s.moveRange i).Accepted := by
  obtain ⟨⟨hwf, hacc, ⟨-, hsetting, -, -⟩, hdac⟩, hbusy, hset⟩ := h
  exact ⟨⟨hwf, hacc, ⟨hi, hsetting, Nat.zero_le _, fun _ => rfl⟩, hdac⟩, hbusy, hset⟩

/-- The hysteresis counter stays as long as the mux does not move (R32, R144, R145). -/
theorem Accepted.withOutOfBandCount (h : s.Accepted) {n : U32} (hn : n ≤ s.cfg.hystThreshold) :
    { s with consecutiveOutOfBandCount := n }.Accepted := by
  obtain ⟨⟨hwf, hacc, ⟨hindex, hsetting, -, hmux⟩, hdac⟩, hbusy, hset⟩ := h
  exact ⟨⟨hwf, hacc, ⟨hindex, hsetting, hn, hmux⟩, hdac⟩, hbusy, hset⟩

theorem Accepted.countOutOfBand (h : s.Accepted) (hn : ¬ s.MovesNow) : s.countOutOfBand.Accepted :=
  h.withOutOfBandCount (BitVec.not_lt.1 hn)

theorem Accepted.decideRange (h : s.Accepted) (freq : U32) : (s.decideRange freq).1.Accepted := by
  have hindex : s.currentRangeIndex < s.cfg.numRanges := by
    obtain ⟨⟨-, -, ⟨hindex, -⟩, -⟩, -⟩ := h
    exact hindex
  unfold State.decideRange
  split
  · next hfast =>
    split
    · exact h.moveRange hfast.2
    · next hn => exact h.countOutOfBand hn
  · split
    · split
      · exact h.moveRange (Nat.lt_of_le_of_lt (Nat.sub_le _ _) hindex)
      · next hn => exact h.countOutOfBand hn
    · exact h.withOutOfBandCount (Nat.zero_le _)

theorem Accepted.reportIf {p : State × U8} (h : p.1.Accepted) (verbose : Bool) : (reportIf verbose p).1.Accepted := by
  cases verbose <;> exact h

theorem pollRange_inv (h : s.Accepted) (verbose : Bool) : (s.pollRange verbose).Inv := by
  have hconsumed : s.consumeWindow.Accepted := h
  unfold pollRange
  split
  · exact ((hconsumed.decideRange _).reportIf _).goto_respond_inv
  · exact h.goto_respond_inv

/-! ## The servo's micro-steps -/

theorem Searching.ne_off (h : s.Searching l) : s.sourceMode ≠ .off := by
  obtain ⟨-, hmode, -⟩ := h
  exact hmode ▸ s.cfg.sourceFor_ne_off l.t

/-- A search ends with its target recorded (R183). -/
theorem recordSearch_inv (hb : s.InBounds) (h : s.Searching l) : (s.recordSearch l).Inv := by
  obtain ⟨hpins, hmode, -⟩ := h
  exact respond_inv (s := { s with requestedVoltageMv := l.t, lastMeasuredVoltageMv := l.m }) hb
    ⟨hpins, fun _ => hmode⟩

theorem InBounds.setDacCode (hb : s.InBounds) (hcode : code ≤ s.cfg.dacMax) : (s.setDacCode code).InBounds := by
  obtain ⟨hwf, hacc, hrange, -⟩ := hb
  exact ⟨hwf, hacc, hrange, hcode, rfl⟩

theorem Searching.setDacCode (h : s.Searching l) (code : U16) : (s.setDacCode code).Searching l := by
  obtain ⟨hpins, hmode, hadc⟩ := h
  exact ⟨hpins.enableDac (Searching.ne_off ⟨hpins, hmode, hadc⟩) code, hmode, hadc⟩

theorem decLoop_inv (hb : s.InBounds) (hbusy : s.fgBusy = true) (h : s.Searching l) : (s.decLoop l).Inv := by
  unfold decLoop
  split
  · next hlt =>
    have hcode : s.dacCode + 1 ≤ s.cfg.dacMax := by bv_omega
    exact .ofBusy (hb.setDacCode hcode) hbusy nofun (h.setDacCode _)
  · exact recordSearch_inv hb h

theorem incLoop_inv (hb : s.InBounds) (hbusy : s.fgBusy = true) (h : s.Searching l) : (s.incLoop l).Inv := by
  unfold incLoop
  split
  · next hpos =>
    have hcode : s.dacCode - 1 ≤ s.cfg.dacMax := by
      obtain ⟨-, -, -, hdac, -⟩ := hb
      bv_omega
    exact .ofBusy (hb.setDacCode hcode) hbusy nofun (h.setDacCode _)
  · exact recordSearch_inv hb h

/-- Before the first step of a search the source is the one of the recorded request, and R177's switch makes it the one
of the target. -/
theorem decEntry_inv (hb : s.InBounds) (hbusy : s.fgBusy = true) (hset : s.Settled) (hon : s.sourceMode ≠ .off)
    (hadc : s.PointedAtBias) (hlt : l.t < s.requestedVoltageMv) : (s.decEntry l).Inv := by
  obtain ⟨hpins, hmode⟩ := hset
  unfold decEntry
  split
  · next hcross =>
    obtain ⟨hreq, htarget⟩ := hcross
    rw [hmode hon, Cfg.sourceFor_of_le hreq] at hpins
    obtain ⟨hldo, -, hdac, hquench⟩ := hpins
    exact .ofBusy hb hbusy nofun ⟨⟨hldo, rfl, hdac, hquench⟩, (Cfg.sourceFor_of_lt htarget).symm, hadc⟩
  · next hcross =>
    exact decLoop_inv hb hbusy ⟨hpins, (hmode hon).trans (Cfg.sourceFor_eq_of_not_crossed hlt hcross).symm, hadc⟩

/-- R180's switch, likewise. -/
theorem incEntry_inv (hb : s.InBounds) (hbusy : s.fgBusy = true) (hset : s.Settled) (hon : s.sourceMode ≠ .off)
    (hadc : s.PointedAtBias) (hlt : s.requestedVoltageMv < l.t) : (s.incEntry l).Inv := by
  obtain ⟨hpins, hmode⟩ := hset
  unfold incEntry
  split
  · next hcross =>
    obtain ⟨hreq, htarget⟩ := hcross
    rw [hmode hon, Cfg.sourceFor_of_lt hreq] at hpins
    obtain ⟨hldo, -, hdac, hquench⟩ := hpins
    exact .ofBusy hb hbusy nofun ⟨⟨hldo, rfl, hdac, hquench⟩, (Cfg.sourceFor_of_le htarget).symm, hadc⟩
  · next hcross =>
    have hsame := Cfg.sourceFor_eq_of_not_crossed hlt fun hc => hcross hc.symm
    exact incLoop_inv hb hbusy ⟨hpins, (hmode hon).trans hsame, hadc⟩

/-- An Update goes down to a target below the recorded request and up to one above it (R174). -/
theorem updateTo_inv (h : s.Accepted) (hon : s.sourceMode ≠ .off) : (s.updateTo mv f).Inv := by
  unfold updateTo
  split
  · exact h.respond_inv
  · next hne =>
    obtain ⟨hb, hbusy, hset⟩ := h
    rw [adcConfigureBias_eq_adcConfigure, adcConfigure_eq]
    by_cases hlt : mv < s.requestedVoltageMv
    · simp only [if_pos hlt]
      exact .ofBusy hb hbusy nofun ⟨hset, hon, rfl, hlt⟩
    · have hgt : s.requestedVoltageMv < mv := by bv_omega
      simp only [if_neg hlt]
      exact .ofBusy hb hbusy nofun ⟨hset, hon, rfl, hgt⟩

theorem updateFrom_inv (h : s.Accepted) (hon : s.sourceMode ≠ .off) : (s.updateFrom mv).Inv := by
  unfold updateFrom
  split
  · obtain ⟨hb, hbusy, hpins, hmode⟩ := h
    have hquench : { s.pins with quenchEn := false } = s.pins := by rw [← hpins.quenchEn_eq_false]
    rw [hquench]
    exact .ofBusy hb hbusy nofun ⟨⟨hpins, hmode⟩, hon⟩
  · exact updateTo_inv h hon

theorem vbiasUpdateFirst_inv (h : s.Accepted) : (s.vbiasUpdateFirst mv).Inv := by
  unfold vbiasUpdateFirst
  split
  · exact h.respond_inv
  · next hon => exact updateFrom_inv h hon

/-- Off, every supply pin is off (R192); the DAC write then enables the DAC alone (R172). -/
theorem vbiasEnableFirst_inv (h : s.Accepted) : (s.vbiasEnableFirst mv).Inv := by
  unfold vbiasEnableFirst
  split
  · next hoff =>
    obtain ⟨⟨hwf, hacc, hrange, -⟩, hbusy, hpins, -⟩ := h
    rw [hoff] at hpins
    obtain ⟨hldo, hstepup, -, hquench⟩ := hpins
    exact .ofBusy ⟨hwf, hacc, hrange, BitVec.le_refl _, rfl⟩ hbusy nofun ⟨hoff, rfl, hldo, hstepup, rfl, hquench⟩
  · exact h.respond_inv

/-- The regulator runs at the minimum, which lies below the activation threshold (R7 (d), R172). -/
theorem enableLdo_inv (hb : s.InBounds) (hbusy : s.fgBusy = true) (hreq : s.requestedVoltageMv = s.cfg.vbiasMinMv)
    (hstepup : s.pins.stepupEn = false) (hdac : s.pins.dacEn = true) (hquench : s.pins.quenchEn = false) :
    (s.enableLdo mv).Inv := by
  have hsource : s.cfg.sourceFor s.requestedVoltageMv = .ldoRegulated := by
    obtain ⟨hwf, -⟩ := hb
    exact Cfg.sourceFor_of_lt (hreq ▸ s.cfg.vbiasMin_lt_stepup hwf)
  exact .ofBusy hb hbusy nofun ⟨⟨⟨rfl, hstepup, hdac, hquench⟩, fun _ => hsource.symm⟩, nofun⟩

theorem vbiasDisableFirst_inv (h : s.Accepted) : s.vbiasDisableFirst.Inv := by
  obtain ⟨hb, hbusy, hpins, -⟩ := h
  exact .ofBusy hb hbusy nofun ⟨rfl, rfl, rfl, rfl, hpins.quenchEn_eq_false⟩

theorem disQuench_inv (hb : s.InBounds) (hbusy : s.fgBusy = true) (h : s.TurnedOff false) : s.disQuench.Inv := by
  obtain ⟨hmode, hldo, hstepup, hdac, -⟩ := h
  exact .ofBusy hb hbusy nofun ⟨hmode, hldo, hstepup, hdac, rfl⟩

theorem disConfigure_inv (hb : s.InBounds) (hbusy : s.fgBusy = true) (h : s.TurnedOff true) : s.disConfigure.Inv := by
  rw [disConfigure, adcConfigureBias_eq_adcConfigure, adcConfigure_eq]
  exact .ofBusy hb hbusy nofun ⟨h, rfl⟩

theorem disQuenchOff_inv (hb : s.InBounds) (hbusy : s.fgBusy = true) (h : s.TurnedOff true)
    (hm : m < s.cfg.quenchThresholdMv) : (s.disQuenchOff m).Inv := by
  obtain ⟨hmode, hldo, hstepup, hdac, -⟩ := h
  exact .ofBusy hb hbusy nofun ⟨⟨hmode, hldo, hstepup, hdac, rfl⟩, hm⟩

theorem TurnedOff.settled (h : s.TurnedOff false) : s.Settled := by
  obtain ⟨hmode, hldo, hstepup, hdac, hquench⟩ := h
  exact ⟨hmode ▸ ⟨hldo, hstepup, hdac, hquench⟩, fun hon => absurd hmode hon⟩

theorem disRecord_inv (hb : s.InBounds) (h : s.TurnedOff false) : (s.disRecord m).Inv := by
  have hoff : { s with lastMeasuredVoltageMv := m, requestedVoltageMv := 0 }.TurnedOff false := h
  exact respond_inv (s := { s with lastMeasuredVoltageMv := m, requestedVoltageMv := 0 }) hb hoff.settled

/-! ## Samples and delays -/

theorem answered_inv (hb : s.InBounds) (hbusy : s.fgBusy = true) {k : SamplePoint} (h : s.AtSample k) (code : U16) :
    (s.answered k code).Inv := by
  cases k with
  | curRead a =>
    obtain ⟨hset, -⟩ := h
    exact .ofBusy hb hbusy nofun hset
  | decSearch l =>
    rw [answered, decAnswered]
    split <;> exact .ofBusy hb hbusy nofun h
  | incSearch l =>
    rw [answered, incAnswered]
    split <;> exact .ofBusy hb hbusy nofun h
  | quench =>
    obtain ⟨hoff, hadc⟩ := h
    rw [answered, quenchAnswered]
    split
    · next hq => exact .ofBusy hb hbusy nofun ⟨hoff, of_decide_eq_true hq⟩
    · exact .ofBusy hb hbusy nofun ⟨hoff, hadc⟩

/-- What holds during a delay is what the position after it needs. -/
theorem goto_after_inv (hb : s.InBounds) (hbusy : s.fgBusy = true) {d : DelayPoint} (h : s.AtDelay d) :
    (s.goto d.after).Inv := by
  cases d with
  | incStep l =>
    rw [DelayPoint.after]
    split <;> exact .ofBusy hb hbusy nofun h
  | softstart mv => exact .ofBusy hb hbusy nofun h
  | stepupOff l => exact .ofBusy hb hbusy nofun h
  | stepupOn l => exact .ofBusy hb hbusy nofun h
  | decStep l => exact .ofBusy hb hbusy nofun h
  | fineSettle l => exact .ofBusy hb hbusy nofun h

/-! ## Transitions -/

/-- Inside a command the invariant is the bounds, the busy bit and the fact of the position. -/
theorem Inv.inside (hs : s.Inv) {q : Seq} (hq : s.seq = q) (hne : q ≠ .idle) :
    s.InBounds ∧ s.fgBusy = true ∧ (s.goto q).AtPosition := by
  obtain ⟨hb, hbusy, -⟩ := inv_iff.1 hs
  exact ⟨hb, by simpa [hq, hne] using hbusy, hs.atSeq hq⟩

theorem adcRsp_inv (hs : s.Inv) (code : U16) : (s.adcRsp code).Inv := by
  unfold adcRsp
  split
  · next k hq =>
    obtain ⟨hb, hbusy, hpos⟩ := hs.inside hq nofun
    exact answered_inv hb hbusy hpos code
  · exact hs

theorem dlyDone_inv (hs : s.Inv) : s.dlyDone.Inv := by
  unfold dlyDone
  split
  · next d hq =>
    obtain ⟨hb, hbusy, hpos⟩ := hs.inside hq nofun
    exact goto_after_inv hb hbusy hpos
  · exact hs

theorem capEnterMux_inv (hb : s.InBounds) (hbusy : s.fgBusy = true) (hset : s.Settled) : s.capEnterMux.Inv := by
  obtain ⟨hwf, hacc, ⟨hindex, hsetting, hhyst, -⟩, hdac⟩ := hb
  exact .ofBusy ⟨hwf, hacc, ⟨hindex, hsetting, hhyst, fun _ => rfl⟩, hdac⟩ hbusy nofun hset

theorem curEnterConfigure_inv (hb : s.InBounds) (hbusy : s.fgBusy = true) (hset : s.Settled) (g : U8) :
    (s.curEnterConfigure g).Inv := by
  rw [curEnterConfigure, adcConfigure_eq]
  exact .ofBusy hb hbusy nofun hset

/-- Each micro-step of the sequencer, from the fact of its position. -/
theorem turn_inv (hs : s.Inv) : s.turn.Inv := by
  cases hq : s.seq
  case idle => simpa only [turn, hq] using hs
  case delayDone d => simpa only [turn, hq] using dlyDone_inv hs
  all_goals
    obtain ⟨hb, hbusy, hpos⟩ := hs.inside hq nofun
    simp only [turn, hq]
  case respond flags value => exact respond_inv hb hpos
  case delay d => exact .ofBusy hb hbusy nofun hpos
  case sample k => exact .ofBusy hb hbusy nofun hpos
  case answer k => exact answered_inv (s := { s with oracle := s.oracle.advance }) hb hbusy hpos _
  case capEnterMux => exact capEnterMux_inv hb hbusy hpos
  case curEnterConfigure g =>
    obtain ⟨hset, -⟩ := hpos
    exact curEnterConfigure_inv hb hbusy hset g
  case enableLdo mv =>
    obtain ⟨-, hreq, -, hstepup, hdac, hquench⟩ := hpos
    exact enableLdo_inv hb hbusy hreq hstepup hdac hquench
  case enableUpdate mv =>
    obtain ⟨hset, hon⟩ := hpos
    exact updateFrom_inv ⟨hb, hbusy, hset⟩ hon
  case updateClamped =>
    obtain ⟨hset, hon⟩ := hpos
    exact updateTo_inv ⟨hb, hbusy, hset⟩ hon
  case decEntry l =>
    obtain ⟨hset, hon, hadc, hlt⟩ := hpos
    exact decEntry_inv hb hbusy hset hon hadc hlt
  case decLoop l => exact decLoop_inv hb hbusy hpos
  case incEntry l =>
    obtain ⟨hset, hon, hadc, hlt⟩ := hpos
    exact incEntry_inv hb hbusy hset hon hadc hlt
  case incLoop l => exact incLoop_inv hb hbusy hpos
  case searchDone l => exact recordSearch_inv hb hpos
  case disQuench => exact disQuench_inv hb hbusy hpos
  case disConfigure => exact disConfigure_inv hb hbusy hpos
  case disQuenchOff m =>
    obtain ⟨hoff, hm⟩ := hpos
    exact disQuenchOff_inv hb hbusy hoff hm
  case disRecord m =>
    obtain ⟨hoff, -⟩ := hpos
    exact disRecord_inv hb hoff

/-- A command is accepted between commands only, where the supply is settled (R43, R96). -/
theorem accept_inv (hs : s.Inv) {first : State → State} (hfirst : ∀ {u : State}, u.Accepted → (first u).Inv) :
    (s.accept first).Inv := by
  cases hbusy : s.fgBusy with
  | true => rwa [s.accept_of_busy first hbusy]
  | false =>
    rw [s.accept_of_idle first hbusy]
    obtain ⟨hb, hseq, -⟩ := inv_iff.1 hs
    have hidle : s.seq = .idle := by simpa [hbusy] using hseq
    have hset : s.Settled := hs.atSeq hidle
    exact hfirst ⟨hb, rfl, hset⟩

/-- The answer to a word that is no command is a refused acceptance (R95, R97). -/
theorem rejected_inv (hs : s.Inv) : (if s.fgBusy then s else s.respond Flag.illegal 0).Inv := by
  have heq : s.accept (·.refuse) = if s.fgBusy then s else s.respond Flag.illegal 0 :=
    Host.Outcome.next.inj (rejectOnPort_eq s)
  exact heq ▸ accept_inv hs Accepted.respond_inv

end State

theorem Progress.run_inv {s : State} (hs : s.Inv) (p : Progress) : (p.run s).Inv := by
  cases p with
  | turn => exact State.turn_inv hs
  | adcRsp code => exact State.adcRsp_inv hs code
  | dlyDone => exact State.dlyDone_inv hs

theorem exec_inv {s t : State} (hs : s.Inv) {i : Instr} (hi : i.wf s.cfg = true) (h : exec i s = .next t) : t.Inv := by
  cases i <;> obtain rfl := Host.Outcome.next.inj h
  case captureF w => exact State.capture_inv hs false w
  case captureR w => exact State.capture_inv hs true w
  case capovf => exact State.captureOverflow_inv hs
  case winclose raw => exact State.closeWindow_inv hs (of_decide_eq_true hi)
  case capEnter k => exact State.accept_inv hs fun hu => State.capEnterFirst_inv hu k
  case capExit => exact State.accept_inv hs State.capExitFirst_inv
  case rangePoll verbose => exact State.accept_inv hs fun hu => State.pollRange_inv hu verbose
  case curEnter g => exact State.accept_inv hs fun hu => State.curEnterFirst_inv hu g
  case curRead a => exact State.accept_inv hs fun hu => State.curReadFirst_inv hu a
  case curExit => exact State.accept_inv hs State.curExitFirst_inv
  case vbiasEnable mv => exact State.accept_inv hs State.vbiasEnableFirst_inv
  case vbiasUpdate mv => exact State.accept_inv hs State.vbiasUpdateFirst_inv
  case vbiasDisable => exact State.accept_inv hs State.vbiasDisableFirst_inv
  case rdreg n => exact State.accept_inv hs fun hu => State.rdregFirst_inv hu n

/-- Settles O13: case by case over what a step can do, the sequencer's micro-steps and the acceptance of each command
among it. -/
theorem stepKeepsTheInvariant : Obligations.StepKeepsTheInvariant := by
  intro s t hs h
  rcases step_cases s t h with ⟨p, rest, rfl, -⟩ | ⟨w, rest, i, hdecode, -, hexec⟩ | ⟨w, rest, -, rfl⟩ |
    ⟨rest, -, -, rfl⟩ | ⟨rest, -, rfl⟩
  · exact Progress.run_inv (hs.withSchedule rest) p
  · exact exec_inv (hs.withSchedule rest) (wf_of_decode hdecode) hexec
  · exact State.rejected_inv (hs.withSchedule rest)
  · exact hs.withSchedule rest
  · exact State.resetInput_inv (hs.withSchedule rest)

/-- Settles O47: outside servo commands the supply is settled. -/
theorem arbitrationAndPinsBetweenCommands : Obligations.ArbitrationAndPinsBetweenCommands := by
  intro s hs hseq
  obtain ⟨hpins, hmode⟩ := hs.settled hseq
  refine ⟨fun hon => ?_, fun hm => ?_, fun hm => ?_, fun hm => ?_⟩
  · rw [hmode hon]
    exact s.cfg.sourceFor_eq_iff s.requestedVoltageMv
  all_goals
    rw [hm] at hpins
    exact hpins

end Machine

end Sys2Proof
end

section
/-! Proofs about the state: what each part of the block leaves unchanged (10_state.md R41, R46, R48, R49). The registers
and pins of each part are gathered in a view, so that a frame is one equation of views, which straight-line updates meet
by computation; each view is tied to its frame of Safety.lean. -/

namespace Sys2Proof

namespace Machine

namespace State

/-! ## Views -/

/-- What `SameAcc` compares. -/
def accView (s : State) :=
  (s.curRiseAcc, s.curFallAcc, s.curRiseCnt, s.curFallCnt, s.lastRiseAcc, s.lastFallAcc, s.lastRiseCnt, s.lastFallCnt,
    s.oscFreqCnt, s.prevRawCount, s.windowReady, s.overflowFlag, s.consecutiveOverflowCount)

/-- What `SameRange` compares. -/
def rangeView (s : State) :=
  (s.currentRangeIndex, s.consecutiveOutOfBandCount, s.freqSetting, s.pins.rselEn, s.pins.rselId)

/-- What `SameServo` compares. -/
def servoView (s : State) :=
  (s.requestedVoltageMv, s.lastMeasuredVoltageMv, s.dacCode, s.sourceMode, s.pins.ldoEn, s.pins.stepupEn,
    s.pins.quenchEn, s.pins.dacEn, s.pins.dacCode)

/-- What `SameCurrent` compares. -/
def currentView (s : State) := (s.curGain, s.pins.csampEn)

/-- What `SameForeground` compares. -/
def foregroundView (s : State) := (s.cfg, s.adcCfg, s.fgBusy, s.seq, s.strobes, s.schedule, s.oracle)

end State

section Views

variable {s t : State}

theorem sameAcc_iff : SameAcc s t ↔ t.accView = s.accView := by
  simp only [State.accView, Prod.mk.injEq]
  exact ⟨fun ⟨a, b, c, d, e, f, g, h, i, j, k, l, m⟩ => ⟨a, b, c, d, e, f, g, h, i, j, k, l, m⟩,
    fun ⟨a, b, c, d, e, f, g, h, i, j, k, l, m⟩ => ⟨a, b, c, d, e, f, g, h, i, j, k, l, m⟩⟩

theorem sameRange_iff : SameRange s t ↔ t.rangeView = s.rangeView := by
  simp only [State.rangeView, Prod.mk.injEq]
  exact ⟨fun ⟨a, b, c, d, e⟩ => ⟨a, b, c, d, e⟩, fun ⟨a, b, c, d, e⟩ => ⟨a, b, c, d, e⟩⟩

theorem sameServo_iff : SameServo s t ↔ t.servoView = s.servoView := by
  simp only [State.servoView, Prod.mk.injEq]
  exact ⟨fun ⟨a, b, c, d, e, f, g, h, i⟩ => ⟨a, b, c, d, e, f, g, h, i⟩,
    fun ⟨a, b, c, d, e, f, g, h, i⟩ => ⟨a, b, c, d, e, f, g, h, i⟩⟩

theorem sameCurrent_iff : SameCurrent s t ↔ t.currentView = s.currentView := by
  simp only [State.currentView, Prod.mk.injEq]
  exact ⟨fun ⟨a, b⟩ => ⟨a, b⟩, fun ⟨a, b⟩ => ⟨a, b⟩⟩

theorem sameForeground_iff : SameForeground s t ↔ t.foregroundView = s.foregroundView := by
  simp only [State.foregroundView, Prod.mk.injEq]
  exact ⟨fun ⟨a, b, c, d, e, f, g⟩ => ⟨a, b, c, d, e, f, g⟩, fun ⟨a, b, c, d, e, f, g⟩ => ⟨a, b, c, d, e, f, g⟩⟩

end Views

/-! ## The parts of the block -/

/-- The part of the block that an operation writes, the foreground's own state and ports apart (R48). -/
inductive Part where
  /-- The accumulator: the events. -/
  | accumulator
  /-- The accumulator and the range controller: `CAP.ENTER` and `RANGE.POLL`. -/
  | capacitance
  /-- No more than the mux pins: `CAP.EXIT`, and `RDREG`, which writes nothing. -/
  | mux
  /-- The current mode. -/
  | current
  /-- The servo. -/
  | servo

end Machine

/-- The part an operation writes. -/
def Instr.part : Instr → Machine.Part
  | .captureF _ => .accumulator
  | .captureR _ => .accumulator
  | .capovf => .accumulator
  | .winclose _ => .accumulator
  | .capEnter _ => .capacitance
  | .capExit => .mux
  | .rangePoll _ => .capacitance
  | .curEnter _ => .current
  | .curRead _ => .current
  | .curExit => .current
  | .vbiasEnable _ => .servo
  | .vbiasUpdate _ => .servo
  | .vbiasDisable => .servo
  | .rdreg _ => .mux

namespace Machine

theorem part_eq_accumulator {i : Instr} (h : i.isEvent = true) : i.part = .accumulator := by
  cases i with
  | captureF | captureR | capovf | winclose => rfl
  | _ => cases h

theorem part_eq_servo {i : Instr} (h : i.opcode = 0x40#8 ∨ i.opcode = 0x41#8 ∨ i.opcode = 0x42#8) :
    i.part = .servo := by
  cases i with
  | vbiasEnable | vbiasUpdate | vbiasDisable => rfl
  | _ => simp [Instr.opcode] at h

theorem part_eq_current {i : Instr} (h : i.opcode = 0x30#8 ∨ i.opcode = 0x31#8 ∨ i.opcode = 0x32#8) :
    i.part = .current := by
  cases i with
  | curEnter | curRead | curExit => rfl
  | _ => simp [Instr.opcode] at h

/-- What a transition that writes one part leaves as it was. -/
def Part.Frame (s t : State) : Part → Prop
  | .accumulator => t.cfg = s.cfg ∧ SameRange s t ∧ SameServo s t ∧ SameCurrent s t ∧ SameForeground s t
  | .capacitance => t.cfg = s.cfg ∧ SameServo s t ∧ SameCurrent s t
  | .mux => t.cfg = s.cfg ∧ SameAcc s t ∧ SameServo s t ∧ SameCurrent s t
  | .current => t.cfg = s.cfg ∧ SameAcc s t ∧ SameRange s t ∧ SameServo s t
  | .servo => t.cfg = s.cfg ∧ SameAcc s t ∧ SameRange s t ∧ SameCurrent s t

namespace State

/-- What the frame of the servo compares. -/
def outsideServo (s : State) := (s.cfg, s.accView, s.rangeView, s.currentView)

/-- What the frame of the current mode compares. -/
def outsideCurrent (s : State) := (s.cfg, s.accView, s.rangeView, s.servoView)

/-- What the frame of the mux compares. -/
def outsideMux (s : State) := (s.cfg, s.accView, s.servoView, s.currentView)

/-- What the frame of the capacitance mode compares. -/
def outsideCapacitance (s : State) := (s.cfg, s.servoView, s.currentView)

/-- What the frame of the accumulator compares. -/
def outsideAcc (s : State) := (s.cfg, s.rangeView, s.servoView, s.currentView, s.foregroundView)

end State

namespace Part.Frame

variable {s t : State}

theorem accumulator_iff : Part.accumulator.Frame s t ↔ t.outsideAcc = s.outsideAcc := by
  simp only [Part.Frame, State.outsideAcc, Prod.mk.injEq, sameRange_iff, sameServo_iff, sameCurrent_iff,
    sameForeground_iff]

theorem capacitance_iff : Part.capacitance.Frame s t ↔ t.outsideCapacitance = s.outsideCapacitance := by
  simp only [Part.Frame, State.outsideCapacitance, Prod.mk.injEq, sameServo_iff, sameCurrent_iff]

theorem mux_iff : Part.mux.Frame s t ↔ t.outsideMux = s.outsideMux := by
  simp only [Part.Frame, State.outsideMux, Prod.mk.injEq, sameAcc_iff, sameServo_iff, sameCurrent_iff]

theorem current_iff : Part.current.Frame s t ↔ t.outsideCurrent = s.outsideCurrent := by
  simp only [Part.Frame, State.outsideCurrent, Prod.mk.injEq, sameAcc_iff, sameRange_iff, sameServo_iff]

theorem servo_iff : Part.servo.Frame s t ↔ t.outsideServo = s.outsideServo := by
  simp only [Part.Frame, State.outsideServo, Prod.mk.injEq, sameAcc_iff, sameRange_iff, sameCurrent_iff]

theorem cfg {p : Part} (h : p.Frame s t) : t.cfg = s.cfg := by
  cases p <;> exact h.1

/-- R41: only the servo's part holds the servo's registers and pins. -/
theorem sameServo {p : Part} (h : p.Frame s t) (hp : p ≠ .servo) : SameServo s t := by
  cases p with
  | accumulator =>
    obtain ⟨-, -, hservo, -⟩ := h
    exact hservo
  | capacitance =>
    obtain ⟨-, hservo, -⟩ := h
    exact hservo
  | mux =>
    obtain ⟨-, -, hservo, -⟩ := h
    exact hservo
  | current =>
    obtain ⟨-, -, -, hservo⟩ := h
    exact hservo
  | servo => exact absurd rfl hp

/-- R48: the accumulator's writers are the events and the two commands of the capacitance mode. -/
theorem sameAcc {p : Part} (h : p.Frame s t) (hacc : p ≠ .accumulator) (hcap : p ≠ .capacitance) : SameAcc s t := by
  cases p with
  | accumulator => exact absurd rfl hacc
  | capacitance => exact absurd rfl hcap
  | mux =>
    obtain ⟨-, hsame, -⟩ := h
    exact hsame
  | current =>
    obtain ⟨-, hsame, -⟩ := h
    exact hsame
  | servo =>
    obtain ⟨-, hsame, -⟩ := h
    exact hsame

end Part.Frame

namespace State

/-! ## Servo transitions -/

theorem adcConfigure_outsideServo (s : State) (ch : BitVec 2) (g : U8) :
    (s.adcConfigure ch g).outsideServo = s.outsideServo := by
  rw [adcConfigure_eq]
  rfl

theorem updateTo_outsideServo (s : State) (t : U16) (flags : U8) :
    (s.updateTo t flags).outsideServo = s.outsideServo := by
  unfold updateTo
  split
  · rfl
  · exact s.adcConfigure_outsideServo s.cfg.vbiasCh s.cfg.vbiasGain

theorem updateFrom_outsideServo (s : State) (mv : U16) : (s.updateFrom mv).outsideServo = s.outsideServo := by
  unfold updateFrom
  split
  · rfl
  · exact s.updateTo_outsideServo mv 0

theorem decLoop_outsideServo (s : State) (l : Search) : (s.decLoop l).outsideServo = s.outsideServo := by
  unfold decLoop
  split <;> rfl

theorem decEntry_outsideServo (s : State) (l : Search) : (s.decEntry l).outsideServo = s.outsideServo := by
  unfold decEntry
  split
  · rfl
  · exact s.decLoop_outsideServo l

theorem incLoop_outsideServo (s : State) (l : Search) : (s.incLoop l).outsideServo = s.outsideServo := by
  unfold incLoop
  split <;> rfl

theorem incEntry_outsideServo (s : State) (l : Search) : (s.incEntry l).outsideServo = s.outsideServo := by
  unfold incEntry
  split
  · rfl
  · exact s.incLoop_outsideServo l

theorem vbiasEnableFirst_outsideServo (s : State) (mv : U16) :
    (s.vbiasEnableFirst mv).outsideServo = s.outsideServo := by
  unfold vbiasEnableFirst
  split <;> rfl

theorem vbiasUpdateFirst_outsideServo (s : State) (mv : U16) :
    (s.vbiasUpdateFirst mv).outsideServo = s.outsideServo := by
  unfold vbiasUpdateFirst
  split
  · rfl
  · exact s.updateFrom_outsideServo mv

/-! ## Transitions of the range controller and of the current mode -/

theorem decideRange_outsideCapacitance (s : State) (freq : U32) :
    (s.decideRange freq).1.outsideCapacitance = s.outsideCapacitance := by
  unfold decideRange
  split
  · split <;> rfl
  · split
    · split <;> rfl
    · rfl

theorem reportIf_outsideCapacitance (verbose : Bool) (p : State × U8) :
    (reportIf verbose p).1.outsideCapacitance = p.1.outsideCapacitance := by
  cases verbose <;> rfl

theorem pollRange_outsideCapacitance (s : State) (verbose : Bool) :
    (s.pollRange verbose).outsideCapacitance = s.outsideCapacitance := by
  unfold pollRange
  split
  · exact (reportIf_outsideCapacitance verbose _).trans (decideRange_outsideCapacitance s.consumeWindow _)
  · rfl

theorem capEnterFirst_outsideCapacitance (s : State) (setting : U8) :
    (s.capEnterFirst setting).outsideCapacitance = s.outsideCapacitance := by
  unfold capEnterFirst
  split <;> rfl

theorem rdregFirst_outsideMux (s : State) (n : U8) : (s.rdregFirst n).outsideMux = s.outsideMux := by
  unfold rdregFirst
  split <;> rfl

theorem curReadFirst_outsideCurrent (s : State) (a : U8) : (s.curReadFirst a).outsideCurrent = s.outsideCurrent := by
  rw [curReadFirst, adcConfigure_eq]
  rfl

theorem curEnterConfigure_outsideMux (s : State) (g : U8) :
    (s.curEnterConfigure g).outsideMux = s.outsideMux := by
  rw [curEnterConfigure, adcConfigure_eq]
  rfl

/-! ## Events -/

theorem capture_outsideAcc (s : State) (pol : Bool) (w : U32) : (s.capture pol w).outsideAcc = s.outsideAcc := by
  unfold capture
  split
  · rfl
  · cases pol <;> rfl

/-! ## Foreground transitions -/

/-- An ADC answer moves the sequencer at most. -/
theorem adcRsp_eq_goto (s : State) (code : U16) : ∃ q : Seq, s.adcRsp code = s.goto q := by
  unfold adcRsp
  split
  · exact ⟨_, s.answered_eq_goto _ code⟩
  · exact ⟨s.seq, rfl⟩

/-- The end of a delay moves the sequencer at most. -/
theorem dlyDone_eq_goto (s : State) : ∃ q : Seq, s.dlyDone = s.goto q := by
  unfold dlyDone
  split
  · exact ⟨_, rfl⟩
  · exact ⟨s.seq, rfl⟩

/-- An oracle's answer moves the sequencer and uses the oracle. -/
theorem oracleAnswers_eq_goto (s : State) (k : SamplePoint) :
    ∃ q : Seq, s.oracleAnswers k = { s with oracle := s.oracle.advance }.goto q :=
  ⟨_, answered_eq_goto _ k _⟩

theorem dlyDone_outsideServo (s : State) : s.dlyDone.outsideServo = s.outsideServo := by
  obtain ⟨q, hq⟩ := s.dlyDone_eq_goto
  rw [hq]
  rfl

theorem oracleAnswers_outsideServo (s : State) (k : SamplePoint) :
    (s.oracleAnswers k).outsideServo = s.outsideServo := by
  obtain ⟨q, hq⟩ := s.oracleAnswers_eq_goto k
  rw [hq]
  rfl

theorem oracleAnswers_outsideMux (s : State) (k : SamplePoint) :
    (s.oracleAnswers k).outsideMux = s.outsideMux := by
  obtain ⟨q, hq⟩ := s.oracleAnswers_eq_goto k
  rw [hq]
  rfl

/-- Of the foreground's turns only the mux write of `CAP.ENTER` writes something that is not the servo's. -/
theorem turn_outsideServo (s : State) (h : s.seq ≠ .capEnterMux) : s.turn.outsideServo = s.outsideServo := by
  cases hq : s.seq
  case capEnterMux => exact absurd hq h
  all_goals simp only [turn, hq]
  case delayDone d => exact s.dlyDone_outsideServo
  case answer k => exact s.oracleAnswers_outsideServo k
  case curEnterConfigure g => exact s.adcConfigure_outsideServo s.cfg.currentCh g
  case enableUpdate mv => exact s.updateFrom_outsideServo mv
  case updateClamped => exact s.updateTo_outsideServo s.cfg.vbiasMinMv Flag.clamped
  case decEntry l => exact s.decEntry_outsideServo l
  case decLoop l => exact s.decLoop_outsideServo l
  case incEntry l => exact s.incEntry_outsideServo l
  case incLoop l => exact s.incLoop_outsideServo l
  case disConfigure => exact s.adcConfigure_outsideServo s.cfg.vbiasCh s.cfg.vbiasGain
  all_goals rfl

/-- Outside servo commands a turn writes no more than the mux. -/
theorem turn_outsideMux (s : State) (h : s.seq.isServo = false) : s.turn.outsideMux = s.outsideMux := by
  cases hq : s.seq
  case curEnterConfigure g => simpa only [turn, hq] using s.curEnterConfigure_outsideMux g
  case answer k => simpa only [turn, hq] using s.oracleAnswers_outsideMux k
  case idle => simp only [turn, hq]
  case respond | sample | capEnterMux =>
    simp only [turn, hq]
    rfl
  all_goals simp [hq, Seq.isServo] at h

/-- A command's first micro-step keeps what it keeps, and a busy port keeps everything (R96, R97). -/
theorem accept_view {α : Type} (view : State → α) (s : State) {first : State → State}
    (hfirst : ∀ u : State, view (first u) = view u) (hbusy : view { s with fgBusy := true } = view s) :
    view (s.accept first) = view s := by
  cases h : s.fgBusy with
  | true => rw [s.accept_of_busy first h]
  | false => rw [s.accept_of_idle first h, hfirst, hbusy]

end State

/-- What an ADC answer, the end of a delay and a turn all keep, progress keeps. -/
theorem Progress.run_view {α : Type} (view : State → α) (s : State) (p : Progress)
    (hgoto : ∀ q : Seq, view (s.goto q) = view s) (hturn : view s.turn = view s) : view (p.run s) = view s := by
  cases p with
  | turn => exact hturn
  | adcRsp code =>
    obtain ⟨q, hq⟩ := s.adcRsp_eq_goto code
    exact (congrArg view hq).trans (hgoto q)
  | dlyDone =>
    obtain ⟨q, hq⟩ := s.dlyDone_eq_goto
    exact (congrArg view hq).trans (hgoto q)

theorem Seq.isServo_of_isCurrent {q : Seq} (h : q.isCurrent = true) : q.isServo = false := by
  cases q with
  | sample k => simpa [Seq.isCurrent, Seq.isServo] using h
  | answer k => simpa [Seq.isCurrent, Seq.isServo] using h
  | curEnterConfigure g => rfl
  | _ => cases h

theorem Progress.run_frame_servo (s : State) (p : Progress) (h : s.seq ≠ .capEnterMux) :
    Part.servo.Frame s (p.run s) :=
  Part.Frame.servo_iff.2 (p.run_view _ s (fun _ => rfl) (s.turn_outsideServo h))

theorem Progress.run_frame_mux (s : State) (p : Progress) (h : s.seq.isServo = false) : Part.mux.Frame s (p.run s) :=
  Part.Frame.mux_iff.2 (p.run_view _ s (fun _ => rfl) (s.turn_outsideMux h))

/-- After acceptance every foreground transition writes one of two parts. -/
theorem Progress.run_frame (s : State) (p : Progress) :
    Part.servo.Frame s (p.run s) ∨ Part.mux.Frame s (p.run s) := by
  by_cases h : s.seq = .capEnterMux
  · exact .inr (p.run_frame_mux s (by rw [h]; rfl))
  · exact .inl (p.run_frame_servo s h)

/-- Every operation writes its own part only. -/
theorem exec_frame (i : Instr) (s : State) : ∃ t : State, exec i s = .next t ∧ i.part.Frame s t := by
  cases i
  case captureF w => exact ⟨_, rfl, Part.Frame.accumulator_iff.2 (s.capture_outsideAcc false w)⟩
  case captureR w => exact ⟨_, rfl, Part.Frame.accumulator_iff.2 (s.capture_outsideAcc true w)⟩
  case capovf => exact ⟨_, rfl, Part.Frame.accumulator_iff.2 rfl⟩
  case winclose raw => exact ⟨_, rfl, Part.Frame.accumulator_iff.2 rfl⟩
  case capEnter k =>
    exact ⟨_, rfl, Part.Frame.capacitance_iff.2 (s.accept_view _ (·.capEnterFirst_outsideCapacitance k) rfl)⟩
  case rangePoll v =>
    exact ⟨_, rfl, Part.Frame.capacitance_iff.2 (s.accept_view _ (·.pollRange_outsideCapacitance v) rfl)⟩
  case capExit => exact ⟨_, rfl, Part.Frame.mux_iff.2 (s.accept_view _ (fun _ => rfl) rfl)⟩
  case rdreg n => exact ⟨_, rfl, Part.Frame.mux_iff.2 (s.accept_view _ (·.rdregFirst_outsideMux n) rfl)⟩
  case curEnter g => exact ⟨_, rfl, Part.Frame.current_iff.2 (s.accept_view _ (fun _ => rfl) rfl)⟩
  case curRead a => exact ⟨_, rfl, Part.Frame.current_iff.2 (s.accept_view _ (·.curReadFirst_outsideCurrent a) rfl)⟩
  case curExit => exact ⟨_, rfl, Part.Frame.current_iff.2 (s.accept_view _ (fun _ => rfl) rfl)⟩
  case vbiasEnable mv =>
    exact ⟨_, rfl, Part.Frame.servo_iff.2 (s.accept_view _ (·.vbiasEnableFirst_outsideServo mv) rfl)⟩
  case vbiasUpdate mv =>
    exact ⟨_, rfl, Part.Frame.servo_iff.2 (s.accept_view _ (·.vbiasUpdateFirst_outsideServo mv) rfl)⟩
  case vbiasDisable => exact ⟨_, rfl, Part.Frame.servo_iff.2 (s.accept_view _ (fun _ => rfl) rfl)⟩

/-! ## The obligations -/

/-- Settles O16: a foreground transition and an operation write one part each, and the configuration is in none. -/
theorem configurationNeverChanges : Obligations.ConfigurationNeverChanges := by
  intro s t h
  rcases step_cases s t h with ⟨p, rest, rfl, -⟩ | ⟨w, rest, i, -, -, hexec⟩ | ⟨w, rest, -, rfl⟩ | ⟨rest, -, -, rfl⟩ |
    ⟨rest, -, rfl⟩
  · rcases p.run_frame { s with schedule := rest } with hframe | hframe <;> exact hframe.cfg
  · obtain ⟨u, hu, hframe⟩ := exec_frame i { s with schedule := rest }
    obtain rfl := Host.Outcome.next.inj (hexec.symm.trans hu)
    exact hframe.cfg
  · split <;> rfl
  · rfl
  · rfl

/-- Settles O52: the foreground's later transitions write the servo or the mux, and the other commands the part of their
own. -/
theorem foregroundLeavesTheAccumulator : Obligations.ForegroundLeavesTheAccumulator := by
  refine ⟨fun s p => ?_, fun s i hevent henter hpoll => ?_⟩
  · rcases p.run_frame s with hframe | hframe <;> exact hframe.sameAcc nofun nofun
  · obtain ⟨t, ht, hframe⟩ := exec_frame i s
    refine ⟨t, ht, ?_⟩
    cases i with
    | captureF | captureR | capovf | winclose => cases hevent
    | capEnter k => exact absurd rfl (henter k)
    | rangePoll v => exact absurd rfl (hpoll v)
    | _ => exact hframe.sameAcc nofun nofun

/-- Settles O53: the part written is not the servo's. -/
theorem onlyServoCommandsWriteServoState : Obligations.OnlyServoCommandsWriteServoState := by
  refine ⟨fun s p hseq => (p.run_frame_mux s hseq).sameServo nofun, fun s i henable hupdate hdisable => ?_⟩
  obtain ⟨t, ht, hframe⟩ := exec_frame i s
  refine ⟨t, ht, ?_⟩
  cases i with
  | vbiasEnable mv => exact absurd rfl (henable mv)
  | vbiasUpdate mv => exact absurd rfl (hupdate mv)
  | vbiasDisable => exact absurd rfl hdisable
  | _ => exact hframe.sameServo nofun

/-- Settles O54: the frames of the two parts, at the positions of their commands and at acceptance. -/
theorem servoAndCurrentFrames : Obligations.ServoAndCurrentFrames := by
  refine ⟨fun s p hservo => ?_, fun s p hcurrent => ?_, fun s i hop => ?_, fun s i hop => ?_⟩
  · have hseq : s.seq ≠ .capEnterMux := fun hq => by simp [hq, Seq.isServo] at hservo
    obtain ⟨-, -, hrange, hcur⟩ := p.run_frame_servo s hseq
    exact ⟨hrange, hcur⟩
  · have hseq : s.seq ≠ .capEnterMux := fun hq => by simp [hq, Seq.isCurrent] at hcurrent
    obtain ⟨-, -, hrange, -⟩ := p.run_frame_servo s hseq
    exact ⟨hrange, (p.run_frame_mux s (Seq.isServo_of_isCurrent hcurrent)).sameServo nofun⟩
  · obtain ⟨t, ht, hframe⟩ := exec_frame i s
    rw [part_eq_servo hop] at hframe
    obtain ⟨-, hacc, hrange, hcur⟩ := hframe
    exact ⟨t, ht, hrange, hcur, hacc⟩
  · obtain ⟨t, ht, hframe⟩ := exec_frame i s
    rw [part_eq_current hop] at hframe
    obtain ⟨-, hacc, hrange, hservo⟩ := hframe
    exact ⟨t, ht, hrange, hservo, hacc⟩

/-- Settles O22: the frame of the accumulator. -/
theorem eventsChangeOnlyTheAccumulator : Obligations.EventsChangeOnlyTheAccumulator := by
  intro s i hevent
  obtain ⟨t, ht, hframe⟩ := exec_frame i s
  rw [part_eq_accumulator hevent] at hframe
  obtain ⟨-, hframe⟩ := hframe
  exact ⟨t, ht, hframe⟩

end Machine

end Sys2Proof
end

section
/-! Proofs about the state: the register table of 10_state.md R50. -/

namespace Sys2Proof

/-! ## Bits of a composite register -/

theorem getLsbD_bit32 (b : Bool) (i : Nat) : (bit32 b).getLsbD i = (decide (i = 0) && b) := by
  cases b <;> simp [bit32, BitVec.getLsbD_one]

/-- A flag at place `k` of a register. -/
theorem getLsbD_bit32_shiftLeft (b : Bool) {k : Nat} (hk : k < 32) (i : Nat) :
    (bit32 b <<< k).getLsbD i = (decide (i = k) && b) := by
  rw [BitVec.getLsbD_shiftLeft, getLsbD_bit32]
  by_cases h : i = k
  · simp [h, hk]
  · by_cases hlt : i < k
    · simp [h, hlt]
    · have hpos : i - k ≠ 0 := by omega
      simp [h, hpos]

/-- A word whose bits from `n` on are zero fits `n` bits. -/
theorem fitsIn_of_getLsbD {n : Nat} {v : U32} (h : ∀ i : Nat, n ≤ i → v.getLsbD i = false) : FitsIn n v :=
  Nat.lt_pow_two_of_testBit _ fun i hi => (BitVec.testBit_toNat v).trans (h i hi)

namespace Machine

theorem State.getLsbD_accStatus (s : State) (i : Nat) :
    s.accStatus.getLsbD i = (decide (i = 0) && s.windowReady || decide (i = 1) && s.overflowFlag) := by
  rw [accStatus, BitVec.getLsbD_or, getLsbD_bit32, getLsbD_bit32_shiftLeft _ (by decide)]

theorem Pins.getLsbD_word (p : Pins) (i : Nat) :
    p.word.getLsbD i = (decide (i = 0) && p.ldoEn || decide (i = 1) && p.stepupEn || decide (i = 2) && p.quenchEn ||
      decide (i = 3) && p.dacEn || decide (i = 4) && p.rselEn || decide (i = 5) && p.csampEn) := by
  simp only [word, BitVec.getLsbD_or, getLsbD_bit32, getLsbD_bit32_shiftLeft, Nat.reduceLT]

theorem AdcCfg.getLsbD_word (a : AdcCfg) (i : Nat) :
    a.word.getLsbD i = (a.ch.getLsbD i || decide (2 ≤ i) && a.gain.getLsbD (i - 2)) := by
  rw [word, BitVec.getLsbD_or, BitVec.getLsbD_shiftLeft, BitVec.getLsbD_setWidth, BitVec.getLsbD_setWidth]
  by_cases hi : i < 32
  · have hsub : i - 2 < 32 := by omega
    have hplace : (!decide (i < 2)) = decide (2 ≤ i) := by rw [← decide_not, decide_eq_decide, Nat.not_lt]
    simp only [hi, hsub, hplace, decide_true, Bool.true_and]
  · have hch : a.ch.getLsbD i = false := a.ch.getLsbD_of_ge i (by omega)
    have hgain : a.gain.getLsbD (i - 2) = false := a.gain.getLsbD_of_ge (i - 2) (by omega)
    simp [hi, hch, hgain]

theorem SourceMode.code_eq_iff (m : SourceMode) :
    (m.code = 0 ↔ m = .off) ∧ (m.code = 1 ↔ m = .ldoRegulated) ∧ (m.code = 2 ↔ m = .stepUpConverter) := by
  cases m <;> decide

theorem State.accStatus_fields (s : State) :
    s.accStatus.getLsbD 0 = s.windowReady ∧ s.accStatus.getLsbD 1 = s.overflowFlag ∧ FitsIn 2 s.accStatus := by
  simp only [s.getLsbD_accStatus]
  refine ⟨by simp, by simp, fitsIn_of_getLsbD fun i hi => ?_⟩
  have hne : i ≠ 0 ∧ i ≠ 1 := by omega
  simp only [s.getLsbD_accStatus, hne, decide_false, Bool.false_and, Bool.or_false]

theorem Pins.word_fields (p : Pins) :
    p.word.getLsbD 0 = p.ldoEn ∧ p.word.getLsbD 1 = p.stepupEn ∧ p.word.getLsbD 2 = p.quenchEn ∧
      p.word.getLsbD 3 = p.dacEn ∧ p.word.getLsbD 4 = p.rselEn ∧ p.word.getLsbD 5 = p.csampEn ∧ FitsIn 6 p.word := by
  simp only [p.getLsbD_word]
  refine ⟨by simp, by simp, by simp, by simp, by simp, by simp, fitsIn_of_getLsbD fun i hi => ?_⟩
  have hne : i ≠ 0 ∧ i ≠ 1 ∧ i ≠ 2 ∧ i ≠ 3 ∧ i ≠ 4 ∧ i ≠ 5 := by omega
  simp only [p.getLsbD_word, hne, decide_false, Bool.false_and, Bool.or_false]

theorem AdcCfg.word_fields (a : AdcCfg) :
    a.word.extractLsb' 0 2 = a.ch ∧ a.word.extractLsb' 2 8 = a.gain ∧ FitsIn 10 a.word := by
  refine ⟨BitVec.eq_of_getLsbD_eq fun i hi => ?_, BitVec.eq_of_getLsbD_eq fun i hi => ?_,
    fitsIn_of_getLsbD fun i hi => ?_⟩
  · have hlow : ¬ 2 ≤ i := by omega
    simp [a.getLsbD_word, hi, hlow]
  · simp [a.getLsbD_word, hi]
  · have hch : a.ch.getLsbD i = false := a.ch.getLsbD_of_ge i (by omega)
    have hgain : a.gain.getLsbD (i - 2) = false := a.gain.getLsbD_of_ge (i - 2) (by omega)
    simp [a.getLsbD_word, hch, hgain]

/-- Settles O49: the fields of each register, bit by bit. -/
theorem compositeRegistersHaveTheirFields : Obligations.CompositeRegistersHaveTheirFields := by
  intro s
  exact ⟨⟨s.accStatus, rfl, s.accStatus_fields⟩, ⟨s.sourceMode.code, rfl, s.sourceMode.code_eq_iff⟩,
    ⟨s.pins.word, rfl, s.pins.word_fields⟩, ⟨s.adcCfg.word, rfl, s.adcCfg.word_fields⟩⟩

/-- Settles O55: the table row by row; no row is missing (`State.readRegister_isSome_iff`). -/
theorem registersReadTheirValues : Obligations.RegistersReadTheirValues := by
  intro s
  refine ⟨rfl, rfl, rfl, rfl, rfl, rfl, rfl, rfl, rfl, rfl, rfl, fun h => ?_, rfl, fun h => ?_, rfl, rfl, rfl, rfl, rfl,
    fun n hn => ?_, fun n hn => ?_⟩
  · exact congrArg some (number32_of_lt _ h)
  · exact congrArg some (number32_of_lt _ h)
  · exact Option.isSome_iff_exists.1 ((s.readRegister_isSome_iff n).2 hn)
  · have hnone : ¬ (s.readRegister n).isSome = true := fun h => Nat.not_le.2 hn ((s.readRegister_isSome_iff n).1 h)
    simpa using hnone

end Machine

end Sys2Proof
end

section
/-! Proofs about the shared state of events and foreground (20_memory.md): the foreground's inputs, the two halves of a
sample and of a delay (R65 to R70), the window's flag (R79), and that events commute with the foreground (R84). For
R84 the registers an event writes are set apart: a transition that takes no notice of them commutes with every event. -/

namespace Sys2Proof.Machine

open Sys2Proof

/-! ## The foreground's inputs -/

theorem transition_of_nil {s : State} (h : s.schedule = []) : transition s = .next s.turn := by
  simp only [transition, h]

theorem transition_of_progress {s : State} {p : Progress} {rest : List Input} (h : s.schedule = p.input :: rest) :
    transition s = .next (p.run { s with schedule := rest }) := by
  cases p <;>
    simp only [transition, h, Progress.input, Progress.run_turn, Progress.run_adcRsp, Progress.run_dlyDone]

theorem transition_of_await {s : State} {rest : List Input} (h : s.schedule = .await :: rest) :
    transition s = if s.fgBusy then .next s.turn else .next { s with schedule := rest } := by
  simp only [transition, h]

/-- Settles O9: on a well-formed configuration a step is the transition of the schedule's head. -/
theorem foregroundTakesItsTurn : Obligations.ForegroundTakesItsTurn := by
  intro s rest hwf
  rw [step_of_wf s hwf]
  exact ⟨transition_of_nil, fun p => transition_of_progress,
    fun h hbusy => (transition_of_await h).trans (if_pos hbusy),
    fun h hidle => (transition_of_await h).trans (if_neg (Bool.eq_false_iff.1 hidle))⟩

/-! ## Samples and delays -/

/-- An event leaves the sequencer where it is (R48). -/
theorem exec_event_seq {i : Instr} (h : i.isEvent = true) (s : State) :
    ∃ t : State, exec i s = .next t ∧ t.seq = s.seq := by
  obtain ⟨t, ht, -, -, -, hfore⟩ := eventsChangeOnlyTheAccumulator s i h
  exact ⟨t, ht, hfore.seq⟩

namespace State

variable {s : State}

theorem turn_of_sample {k : SamplePoint} (h : s.seq = .sample k) :
    s.turn = (s.strobe (k.request s.cfg)).goto (.answer k) := by
  simp only [turn, h]

theorem turn_of_answer {k : SamplePoint} (h : s.seq = .answer k) : s.turn = s.oracleAnswers k := by
  simp only [turn, h]

theorem turn_of_delay {d : DelayPoint} (h : s.seq = .delay d) :
    s.turn = (s.delay (d.setting s.cfg)).goto (.delayDone d) := by
  simp only [turn, h]

theorem turn_of_delayDone {d : DelayPoint} (h : s.seq = .delayDone d) : s.turn = s.dlyDone := by
  simp only [turn, h]

/-- The oracle is not looked at once it has answered. -/
theorem answered_withOracle (s : State) (o : Oracle) (k : SamplePoint) (code : U16) :
    { s with oracle := o }.answered k code = { s.answered k code with oracle := o } := by
  cases k <;> rfl

/-- An answer ends the wait for it. -/
theorem answered_seq_ne_answer (s : State) (k j : SamplePoint) (code : U16) :
    (s.answered k code).seq ≠ .answer j := by
  cases k with
  | curRead a => nofun
  | decSearch l =>
    simp only [answered, decAnswered, goto_seq]
    split <;> nofun
  | incSearch l =>
    simp only [answered, incAnswered, goto_seq]
    split <;> nofun
  | quench =>
    simp only [answered, quenchAnswered, goto_seq]
    split <;> nofun

/-- The oracle's answer is the same as one on the port, but for what it uses of the oracle (R66; log entry 9). -/
theorem adcRsp_eq_turn {k : SamplePoint} (h : s.seq = .answer k) (o : Oracle) :
    s.adcRsp o.answer = { { s with oracle := o }.turn with oracle := s.oracle } := by
  have hturn : { s with oracle := o }.turn = { s.answered k o.answer with oracle := o.advance } :=
    (turn_of_answer (s := { s with oracle := o }) h).trans (s.answered_withOracle o.advance k o.answer)
  rw [hturn, s.adcRsp_of_answer k o.answer h, s.answered_eq_goto k]
  rfl

end State

/-- Settles O56: the request, then what an answer, a turn, a `dly_done` and an event do while the sequencer waits. -/
theorem sampleIsARequestThenAnAnswer : Obligations.SampleIsARequestThenAnAnswer := by
  refine fun s k => ⟨State.turn_of_sample, fun h => ⟨?_, ?_, ?_, fun code => ?_, fun i hevent => ?_⟩,
    fun h code => s.adcRsp_of_no_request code h⟩
  · exact (State.turn_of_answer h).trans (State.adcRsp_of_answer { s with oracle := s.oracle.advance } k _ h).symm
  · exact s.dlyDone_of_no_request fun d hd => Seq.noConfusion (h.symm.trans hd)
  · rintro code o rfl
    exact State.adcRsp_eq_turn h o
  · rw [s.adcRsp_of_answer k code h]
    exact ⟨_, s.answered_eq_goto k code, fun j => s.answered_seq_ne_answer k j code⟩
  · rw [← h]
    exact exec_event_seq hevent s

/-- Settles O57: the request, then what `dly_done`, a turn, an answer and an event do while the sequencer waits. -/
theorem delayIsARequestThenItsEnd : Obligations.DelayIsARequestThenItsEnd := by
  refine fun s d => ⟨fun h hfits => ?_, fun h => ⟨_, State.turn_of_delay h⟩,
    fun h => ⟨s.dlyDone_of_delayDone d h, State.turn_of_delayDone h, fun code => ?_, fun i hevent => ?_⟩,
    s.dlyDone_of_no_request⟩
  · rw [State.turn_of_delay h, ← number32_of_lt _ hfits]
    rfl
  · exact s.adcRsp_of_no_request code fun k hk => Seq.noConfusion (h.symm.trans hk)
  · rw [← h]
    exact exec_event_seq hevent s

/-! ## The window's flag -/

namespace State

variable {s : State}

theorem decideRange_windowReady (s : State) (f : U32) : (s.decideRange f).1.windowReady = s.windowReady := by
  unfold decideRange
  split
  · split <;> rfl
  · split
    · split <;> rfl
    · rfl

theorem reportIf_windowReady (v : Bool) (p : State × U8) : (reportIf v p).1.windowReady = p.1.windowReady := by
  cases v <;> rfl

/-- A poll consumes a ready window, and one that finds none leaves the flag clear (R142). -/
theorem pollRange_windowReady (s : State) (v : Bool) : (s.pollRange v).windowReady = false := by
  unfold pollRange
  split
  · exact (reportIf_windowReady v _).trans (s.consumeWindow.decideRange_windowReady s.freqEstimate)
  · next h => exact Bool.eq_false_iff.2 h

theorem capEnterFirst_windowReady (h : s.windowReady = false) (k : U8) : (s.capEnterFirst k).windowReady = false := by
  unfold capEnterFirst
  split
  · exact h
  · rfl

theorem capture_windowReady (s : State) (pol : Bool) (w : U32) : (s.capture pol w).windowReady = s.windowReady := by
  unfold capture
  split
  · rfl
  · cases pol <;> rfl

/-- A clear flag stays clear at acceptance if the first micro-step leaves it clear, and while the port is busy. -/
theorem accept_windowReady {first : State → State} (hs : s.windowReady = false)
    (hfirst : ∀ u : State, u.windowReady = false → (first u).windowReady = false) :
    (s.accept first).windowReady = false := by
  cases h : s.fgBusy with
  | true => rwa [s.accept_of_busy first h]
  | false =>
    rw [s.accept_of_idle first h]
    exact hfirst _ hs

end State

/-- R79: no operation but `WINCLOSE` sets the flag. -/
theorem exec_windowReady_eq_false {i : Instr} {s : State} (hi : ∀ raw : U32, i ≠ .winclose raw)
    (hs : s.windowReady = false) : ∃ t : State, exec i s = .next t ∧ t.windowReady = false := by
  cases i with
  | winclose raw => exact absurd rfl (hi raw)
  | captureF w => exact ⟨_, rfl, (s.capture_windowReady false w).trans hs⟩
  | captureR w => exact ⟨_, rfl, (s.capture_windowReady true w).trans hs⟩
  | capovf => exact ⟨_, rfl, hs⟩
  | capEnter k => exact ⟨_, rfl, State.accept_windowReady hs fun u hu => State.capEnterFirst_windowReady hu k⟩
  | rangePoll v => exact ⟨_, rfl, State.accept_windowReady hs fun u _ => u.pollRange_windowReady v⟩
  | _ =>
    obtain ⟨t, ht, hframe⟩ := exec_frame _ s
    exact ⟨t, ht, (hframe.sameAcc nofun nofun).windowReady.trans hs⟩

/-- After acceptance no foreground transition writes the flag. -/
theorem Progress.run_windowReady (p : Progress) (s : State) : (p.run s).windowReady = s.windowReady := by
  rcases p.run_frame s with hframe | hframe <;> exact (hframe.sameAcc nofun nofun).windowReady

/-- Settles O31: of all that a step can do only a `WINCLOSE` sets the flag, and a `WINCLOSE` on the command port is no
command. -/
theorem aWindowIsConsumedAtMostOnce : Obligations.AWindowIsConsumedAtMostOnce := by
  refine ⟨fun s t hstep hs ht => ?_, fun s v hidle => ⟨_, rfl, ?_⟩⟩
  · have hset : t.windowReady ≠ false := by simp [ht]
    rcases step_cases s t hstep with ⟨p, rest, rfl, -⟩ | ⟨w, rest, i, hdec, hsched, hexec⟩ | ⟨w, rest, -, rfl⟩ |
      ⟨rest, -, -, rfl⟩ | ⟨rest, -, rfl⟩
    · exact absurd ((p.run_windowReady { s with schedule := rest }).trans hs) hset
    · by_cases hi : ∃ raw : U32, i = .winclose raw
      · obtain ⟨raw, rfl⟩ := hi
        rcases hsched with htrace | ⟨-, hevent⟩
        · exact ⟨w, rest, raw, htrace, hdec⟩
        · cases hevent
      · obtain ⟨u, hu, hclear⟩ := exec_windowReady_eq_false (s := { s with schedule := rest }) (not_exists.1 hi) hs
        obtain rfl := Host.Outcome.next.inj (hexec.symm.trans hu)
        exact absurd hclear hset
    · refine absurd ?_ hset
      split <;> exact hs
    · exact absurd hs hset
    · exact absurd rfl hset
  · rw [s.accept_of_idle _ hidle]
    exact State.pollRange_windowReady _ v

/-! ## Events and the foreground -/

namespace State

/-- `s` with the registers an event may write as `a` has them (the event writers of R48). -/
def withAcc (s a : State) : State :=
  { s with
    curRiseAcc := a.curRiseAcc
    curFallAcc := a.curFallAcc
    curRiseCnt := a.curRiseCnt
    curFallCnt := a.curFallCnt
    lastRiseAcc := a.lastRiseAcc
    lastFallAcc := a.lastFallAcc
    lastRiseCnt := a.lastRiseCnt
    lastFallCnt := a.lastFallCnt
    oscFreqCnt := a.oscFreqCnt
    prevRawCount := a.prevRawCount
    windowReady := a.windowReady
    overflowFlag := a.overflowFlag
    consecutiveOverflowCount := a.consecutiveOverflowCount }

theorem withAcc_self (s : State) : s.withAcc s = s := rfl

/-- A choice between two states that `withAcc` is applied to. -/
theorem ite_withAcc (c : Prop) [Decidable c] (s t a : State) :
    (if c then s else t).withAcc a = if c then s.withAcc a else t.withAcc a :=
  apply_ite (·.withAcc a) c s t

/-! ### What an event does, from the registers it writes -/

theorem capture_withAcc (s u : State) (pol : Bool) (w : U32) :
    (u.withAcc s).capture pol w = u.withAcc (s.capture pol w) := by
  unfold capture
  rw [apply_ite u.withAcc, apply_ite u.withAcc]
  rfl

/-- The window's count is the one thing that reads the configuration. -/
theorem closeWindow_withAcc {s u : State} (h : u.cfg = s.cfg) (raw : U32) :
    (u.withAcc s).closeWindow raw = u.withAcc (s.closeWindow raw) := by
  simp only [closeWindow, withAcc, h]

/-! ### The foreground takes no notice of those registers -/

section Foreground

variable (s a : State)

theorem adcConfigure_withAcc (ch : BitVec 2) (g : U8) :
    (s.withAcc a).adcConfigure ch g = (s.adcConfigure ch g).withAcc a := by
  rw [adcConfigure_eq, adcConfigure_eq]
  rfl

theorem updateTo_withAcc (t : U16) (flags : U8) : (s.withAcc a).updateTo t flags = (s.updateTo t flags).withAcc a := by
  have hadc := s.adcConfigure_withAcc a s.cfg.vbiasCh s.cfg.vbiasGain
  unfold updateTo
  rw [ite_withAcc]
  exact if_congr Iff.rfl rfl (congrArg (goto · _) hadc)

theorem updateFrom_withAcc (mv : U16) : (s.withAcc a).updateFrom mv = (s.updateFrom mv).withAcc a := by
  unfold updateFrom
  rw [ite_withAcc, ← updateTo_withAcc]
  rfl

theorem decLoop_withAcc (l : Search) : (s.withAcc a).decLoop l = (s.decLoop l).withAcc a := by
  unfold decLoop
  rw [ite_withAcc]
  rfl

theorem decEntry_withAcc (l : Search) : (s.withAcc a).decEntry l = (s.decEntry l).withAcc a := by
  unfold decEntry
  rw [ite_withAcc, ← decLoop_withAcc]
  rfl

theorem incLoop_withAcc (l : Search) : (s.withAcc a).incLoop l = (s.incLoop l).withAcc a := by
  unfold incLoop
  rw [ite_withAcc]
  rfl

theorem incEntry_withAcc (l : Search) : (s.withAcc a).incEntry l = (s.incEntry l).withAcc a := by
  unfold incEntry
  rw [ite_withAcc, ← incLoop_withAcc]
  rfl

theorem vbiasEnableFirst_withAcc (mv : U16) :
    (s.withAcc a).vbiasEnableFirst mv = (s.vbiasEnableFirst mv).withAcc a := by
  unfold vbiasEnableFirst
  rw [ite_withAcc]
  rfl

theorem vbiasUpdateFirst_withAcc (mv : U16) :
    (s.withAcc a).vbiasUpdateFirst mv = (s.vbiasUpdateFirst mv).withAcc a := by
  unfold vbiasUpdateFirst
  rw [ite_withAcc, ← updateFrom_withAcc]
  rfl

theorem answered_withAcc (k : SamplePoint) (code : U16) :
    (s.withAcc a).answered k code = (s.answered k code).withAcc a := by
  cases k <;> rfl

theorem adcRsp_withAcc (code : U16) : (s.withAcc a).adcRsp code = (s.adcRsp code).withAcc a := by
  by_cases h : ∃ k : SamplePoint, s.seq = .answer k
  · obtain ⟨k, hk⟩ := h
    rw [s.adcRsp_of_answer k code hk, (s.withAcc a).adcRsp_of_answer k code hk, answered_withAcc]
  · rw [s.adcRsp_of_no_request code (not_exists.1 h), (s.withAcc a).adcRsp_of_no_request code (not_exists.1 h)]

theorem dlyDone_withAcc : (s.withAcc a).dlyDone = s.dlyDone.withAcc a := by
  by_cases h : ∃ d : DelayPoint, s.seq = .delayDone d
  · obtain ⟨d, hd⟩ := h
    rw [s.dlyDone_of_delayDone d hd, (s.withAcc a).dlyDone_of_delayDone d hd]
    rfl
  · rw [s.dlyDone_of_no_request (not_exists.1 h), (s.withAcc a).dlyDone_of_no_request (not_exists.1 h)]

theorem turn_withAcc : (s.withAcc a).turn = s.turn.withAcc a := by
  cases hq : s.seq
  all_goals simp only [turn, hq, show (s.withAcc a).seq = _ from hq]
  case delayDone d => exact s.dlyDone_withAcc a
  case answer k => exact answered_withAcc { s with oracle := s.oracle.advance } a k s.oracle.answer
  case curEnterConfigure g => exact congrArg (goto · _) (s.adcConfigure_withAcc a s.cfg.currentCh g)
  case enableUpdate mv => exact s.updateFrom_withAcc a mv
  case updateClamped => exact s.updateTo_withAcc a s.cfg.vbiasMinMv Flag.clamped
  case decEntry l => exact s.decEntry_withAcc a l
  case decLoop l => exact s.decLoop_withAcc a l
  case incEntry l => exact s.incEntry_withAcc a l
  case incLoop l => exact s.incLoop_withAcc a l
  case disConfigure => exact congrArg (goto · _) (s.adcConfigure_withAcc a s.cfg.vbiasCh s.cfg.vbiasGain)
  all_goals rfl

theorem accept_withAcc {first : State → State} (hfirst : ∀ u : State, first (u.withAcc a) = (first u).withAcc a) :
    (s.withAcc a).accept first = (s.accept first).withAcc a := by
  unfold accept
  rw [ite_withAcc, ← hfirst]
  rfl

end Foreground

end State

/-- Every foreground transition takes the accumulator along as it is, that of `CAP.ENTER` included. -/
theorem Progress.run_withAcc (p : Progress) (s a : State) : p.run (s.withAcc a) = (p.run s).withAcc a := by
  cases p with
  | turn => exact s.turn_withAcc a
  | adcRsp code => exact s.adcRsp_withAcc a code
  | dlyDone => exact s.dlyDone_withAcc a

theorem Progress.run_cfg (p : Progress) (s : State) : (p.run s).cfg = s.cfg := by
  rcases p.run_frame s with hframe | hframe <;> exact hframe.cfg

/-- The acceptance of a servo or current-mode command is a function that takes the accumulator along as it is. -/
theorem exec_command_withAcc {j : Instr} (hj : j.part = .servo ∨ j.part = .current) :
    ∃ f : State → State, (∀ s : State, exec j s = .next (f s)) ∧ ∀ s a : State, f (s.withAcc a) = (f s).withAcc a := by
  cases j with
  | curEnter g => exact ⟨_, fun _ => rfl, fun s a => s.accept_withAcc a fun _ => rfl⟩
  | curRead c => exact ⟨_, fun _ => rfl, fun s a => s.accept_withAcc a fun u =>
      congrArg (State.goto · _) (u.adcConfigure_withAcc a u.cfg.currentCh u.curGain)⟩
  | curExit => exact ⟨_, fun _ => rfl, fun s a => s.accept_withAcc a fun _ => rfl⟩
  | vbiasEnable mv => exact ⟨_, fun _ => rfl, fun s a => s.accept_withAcc a (·.vbiasEnableFirst_withAcc a mv)⟩
  | vbiasUpdate mv => exact ⟨_, fun _ => rfl, fun s a => s.accept_withAcc a (·.vbiasUpdateFirst_withAcc a mv)⟩
  | vbiasDisable => exact ⟨_, fun _ => rfl, fun s a => s.accept_withAcc a fun _ => rfl⟩
  | _ => rcases hj with h | h <;> cases h

theorem exec_cfg {j : Instr} {s t : State} (h : exec j s = .next t) : t.cfg = s.cfg := by
  obtain ⟨u, hu, hframe⟩ := exec_frame j s
  obtain rfl := Host.Outcome.next.inj (h.symm.trans hu)
  exact hframe.cfg

/-- An event maps the accumulator to the accumulator, whatever the rest of the state is. -/
theorem exec_event_withAcc {i : Instr} (h : i.isEvent = true) (s : State) :
    ∃ t : State, exec i s = .next t ∧ ∀ u : State, u.cfg = s.cfg → exec i (u.withAcc s) = .next (u.withAcc t) := by
  cases i with
  | captureF w => exact ⟨_, rfl, fun u _ => congrArg _ (s.capture_withAcc u false w)⟩
  | captureR w => exact ⟨_, rfl, fun u _ => congrArg _ (s.capture_withAcc u true w)⟩
  | capovf => exact ⟨_, rfl, fun _ _ => rfl⟩
  | winclose raw => exact ⟨_, rfl, fun u hu => congrArg _ (State.closeWindow_withAcc hu raw)⟩
  | _ => cases h

/-- An event commutes with a transition that takes the accumulator along as it is. -/
theorem exec_event_commutes {i : Instr} (h : i.isEvent = true) {f : State → State} {s : State}
    (hcfg : (f s).cfg = s.cfg) (hf : ∀ a : State, f (s.withAcc a) = (f s).withAcc a) :
    ∃ t : State, exec i s = .next t ∧ exec i (f s) = .next (f t) := by
  obtain ⟨t, ht, hevent⟩ := exec_event_withAcc h s
  have hself : t = s.withAcc t := Host.Outcome.next.inj (ht.symm.trans (hevent s rfl))
  refine ⟨t, ht, ?_⟩
  calc exec i (f s)
      = exec i ((f s).withAcc s) := by rw [← hf, State.withAcc_self]
    _ = .next ((f s).withAcc t) := hevent (f s) hcfg
    _ = .next (f (s.withAcc t)) := by rw [hf]
    _ = .next (f t) := by rw [← hself]

/-- Settles O50: neither a foreground transition nor one of these acceptances takes notice of the accumulator. -/
theorem eventsCommuteWithServoAndCurrentSteps : Obligations.EventsCommuteWithServoAndCurrentSteps := by
  refine fun s i hevent => ⟨fun _ p => exec_event_commutes hevent (p.run_cfg s) (p.run_withAcc s), fun j hop => ?_⟩
  have hpart : j.part = .servo ∨ j.part = .current := by
    rcases hop with h | h | h | h
    · exact .inr (part_eq_current (.inl h))
    · exact .inr (part_eq_current (.inr (.inl h)))
    · exact .inr (part_eq_current (.inr (.inr h)))
    · exact .inl (part_eq_servo h)
  obtain ⟨f, hexec, hf⟩ := exec_command_withAcc hpart
  obtain ⟨a, ha, hcomm⟩ := exec_event_commutes hevent (exec_cfg (hexec s)) (hf s)
  exact ⟨a, f s, f a, ha, hexec s, hcomm, hexec a⟩

end Sys2Proof.Machine
end

section
/-! Proofs about the encoding (30_encoding.md): the decoder and the encoder are inverse (R90 to R94), the reserved opcodes
(R95), what a step does with a word (R91, R95 to R97), and that a command ends with one response (R98). -/

namespace Sys2Proof

/-! ## Operands and their fields -/

theorem fitsIn_zext32 {n : Nat} (hn : n ≤ 32) (v : BitVec n) : FitsIn n (zext32 v) := by
  rw [FitsIn, BitVec.toNat_setWidth_of_le hn]
  exact v.isLt

theorem setWidth_zext32 {n : Nat} (hn : n ≤ 32) (v : BitVec n) : (zext32 v).setWidth n = v := by
  rw [BitVec.setWidth_setWidth_of_le v hn, BitVec.setWidth_eq]

/-- The companion of `bit32_getLsbD_zero`: an operand of one bit is its lowest bit. -/
theorem bit32_of_fitsIn_one {x : U32} (h : FitsIn 1 x) : bit32 (x.getLsbD 0) = x := by
  apply BitVec.eq_of_getLsbD_eq
  intro i hi
  rw [getLsbD_bit32]
  by_cases h0 : i = 0
  · simp [h0]
  · have hx : x.toNat < 2 ^ i := Nat.lt_of_lt_of_le h (Nat.pow_le_pow_right (by decide) (by omega))
    simp [h0, BitVec.getLsbD, Nat.testBit_lt_two_pow hx]

/-! ## The decoder on the two fields -/

theorem checkOperand_ne_reservedOpcode (op op' : U8) (bits : Nat) (x : U32) (i : Instr) :
    checkOperand op bits x i ≠ .reservedOpcode op' := by
  unfold checkOperand
  split <;> nofun

theorem eq_of_checkOperand_eq_reservedOperand {op op' : U8} {bits : Nat} {x : U32} {i : Instr}
    (h : checkOperand op bits x i = .reservedOperand op') : op' = op := by
  unfold checkOperand at h
  split at h
  · cases h
  · exact (Decoded.reservedOperand.inj h).symm

/-- An operand narrower than its field is read back from its zero extension (R93). -/
theorem checkOperand_zext32 {n : Nat} (hn : n ≤ 32) (op : U8) (f : BitVec n → Instr) (v : BitVec n) :
    checkOperand op n (zext32 v) (f ((zext32 v).setWidth n)) = .instr (f v) :=
  (checkOperand_eq_instr_iff ..).2 ⟨fitsIn_zext32 hn v, congrArg f (setWidth_zext32 hn v)⟩

/-- The row of R92 that an operation's opcode selects reads its operand back. -/
theorem decodeFields_opcode_operand {c : Cfg} {i : Instr} (h : i.wf c = true) :
    decodeFields c i.opcode i.operand = .instr i := by
  cases i with
  | captureF | captureR | winclose => exact (checkOperand_eq_instr_iff ..).2 ⟨of_decide_eq_true h, rfl⟩
  | capovf | capExit | curExit | vbiasDisable =>
    exact (checkOperand_eq_instr_iff ..).2 ⟨(fitsIn_zero_iff 0).2 rfl, rfl⟩
  | rangePoll v =>
    exact (checkOperand_eq_instr_iff ..).2 ⟨fitsIn_one_bit32 v, congrArg Instr.rangePoll (bit32_getLsbD_zero v)⟩
  | capEnter k => exact checkOperand_zext32 (by decide) _ Instr.capEnter k
  | curEnter g => exact checkOperand_zext32 (by decide) _ Instr.curEnter g
  | curRead a => exact checkOperand_zext32 (by decide) _ Instr.curRead a
  | vbiasEnable mv => exact checkOperand_zext32 (by decide) _ Instr.vbiasEnable mv
  | vbiasUpdate mv => exact checkOperand_zext32 (by decide) _ Instr.vbiasUpdate mv
  | rdreg n => exact checkOperand_zext32 (by decide) _ Instr.rdreg n

/-- What is read from two fields has those fields: the row fixes the opcode, and no bit of the operand is lost. -/
theorem opcode_operand_of_decodeFields {c : Cfg} {op : U8} {x : U32} {i : Instr} (h : decodeFields c op x = .instr i) :
    i.opcode = op ∧ i.operand = x := by
  unfold decodeFields at h
  split at h
  case h_15 => cases h
  all_goals
    obtain ⟨hfits, rfl⟩ := (checkOperand_eq_instr_iff ..).1 h
    refine ⟨(BitVec.eq_of_toNat_eq ‹op.toNat = _›).symm, ?_⟩
  -- the operands of `CAPTURE` and `WINCLOSE` are the whole field
  case h_1 | h_2 | h_4 => rfl
  -- `RANGE.POLL` has one bit
  case h_7 => exact bit32_of_fitsIn_one hfits
  -- no operand
  case h_3 | h_6 | h_10 | h_13 => exact ((fitsIn_zero_iff x).1 hfits).symm
  -- an operand of 8 or 16 bits
  all_goals exact setWidth_setWidth_of_fitsIn (by decide) x hfits

theorem decodeFields_eq_reservedOpcode_iff (c : Cfg) (op : U8) (x : U32) :
    decodeFields c op x = .reservedOpcode op ↔
      op.toNat ∉ [0x10, 0x11, 0x12, 0x13, 0x20, 0x21, 0x22, 0x30, 0x31, 0x32, 0x40, 0x41, 0x42, 0x50] := by
  unfold decodeFields
  split
  case h_15 =>
    -- the default row: `op` is none of those before it
    exact iff_of_true rfl (by simp only [List.mem_cons, List.not_mem_nil]; tauto)
  all_goals
    refine iff_of_false (fun h => checkOperand_ne_reservedOpcode _ _ _ _ _ h) (not_not_intro ?_)
    rw [‹op.toNat = _›]
    decide

theorem eq_of_decodeFields_eq_reservedOperand {c : Cfg} {op op' : U8} {x : U32}
    (h : decodeFields c op x = .reservedOperand op') : op' = op := by
  unfold decodeFields at h
  split at h
  case h_15 => cases h
  all_goals exact eq_of_checkOperand_eq_reservedOperand h

/-! ## The decoder and the encoder -/

theorem decode_makeWord (c : Cfg) (op : U8) (x : U32) : decode c (makeWord op x) = decodeFields c op x := by
  rw [decode, opField_makeWord, operandField_makeWord]

/-- Settles O1: the encoder's two fields come back, and the row of R92 reads them. -/
theorem decodeOfEncodeIsTheInstruction : Obligations.DecodeOfEncodeIsTheInstruction :=
  fun c i hwf => (decode_makeWord c i.opcode i.operand).trans (decodeFields_opcode_operand hwf)

/-- Settles O2: what is read from a word has the word's two fields, and a word is no more than those. -/
theorem decodedWordIsItsEncoding : Obligations.DecodedWordIsItsEncoding := by
  intro c w i h
  obtain ⟨hop, hoperand⟩ := opcode_operand_of_decodeFields h
  have hword : encode i = w := by rw [encode, hop, hoperand, makeWord_fields]
  exact ⟨hword, wf_of_decode h⟩

/-- Settles O3: the ranges are what lies between the opcodes of R92. -/
theorem reservedOpcodesAreExactlyThoseListed : Obligations.ReservedOpcodesAreExactlyThoseListed := by
  intro c w
  rw [decode, decodeFields_eq_reservedOpcode_iff]
  simp only [List.mem_cons, List.not_mem_nil, or_false]
  omega

namespace Machine

/-! ## The head of the schedule -/

theorem step_of_trace {s : State} {w : OpWord} {rest : List Input} (hwf : s.cfg.wf = true)
    (h : s.schedule = .trace w :: rest) : step s = deliver w { s with schedule := rest } := by
  rw [step_of_wf s hwf]
  simp only [transition, h]

theorem step_of_command {s : State} {w : OpWord} {rest : List Input} (hwf : s.cfg.wf = true)
    (h : s.schedule = .command w :: rest) : step s = commandPort w { s with schedule := rest } := by
  rw [step_of_wf s hwf]
  simp only [transition, h]

/-! ## A word of a program and a word on the command port -/

/-- The class of R91 is the class of the word. -/
theorem isEvent_eq_of_decode {c : Cfg} {w : OpWord} {i : Instr} (h : decode c w = .instr i) :
    i.isEvent = isEventOpcode (opField w) := by
  obtain ⟨hop, -⟩ := opcode_operand_of_decodeFields h
  rw [← hop]
  cases i <;> rfl

theorem commandPort_of_decode {s : State} {w : OpWord} {i : Instr} (h : decode s.cfg w = .instr i)
    (hi : i.isEvent = false) : commandPort w s = exec i s := by
  simp [commandPort, h, hi]

/-- R95 (a): anything that is no command. -/
theorem commandPort_of_no_command {s : State} {w : OpWord}
    (h : ∀ i : Instr, decode s.cfg w = .instr i → i.isEvent = true) : commandPort w s = rejectOnPort s := by
  unfold commandPort
  split
  · next i hi => exact if_pos (h i hi)
  · rfl
  · rfl

theorem deliver_of_reservedOperand {s : State} {w : OpWord} {op : U8} (h : decode s.cfg w = .reservedOperand op)
    (hop : isEventOpcode op = true) : deliver w s = .refused (.illFormedTrace w) := by
  simp [deliver, h, hop]

/-- A word of a program that is not an event's goes to the command port. -/
theorem deliver_eq_commandPort (s : State) {w : OpWord} (h : isEventOpcode (opField w) = false) :
    deliver w s = commandPort w s := by
  cases hdecode : decode s.cfg w with
  | instr i =>
    rw [deliver_of_decode s w i hdecode, commandPort_of_decode hdecode ((isEvent_eq_of_decode hdecode).trans h)]
  | reservedOpcode op => simp only [deliver, commandPort, hdecode]
  | reservedOperand op =>
    obtain rfl := eq_of_decodeFields_eq_reservedOperand hdecode
    simp [deliver, commandPort, hdecode, h]

/-- R95 (a) between commands: the response is all that changes. -/
theorem rejectOnPort_of_idle {s : State} (h : s.Idle) :
    rejectOnPort s = .next { s with strobes := .response Flag.illegal 0 :: s.strobes } := by
  rw [rejectOnPort_eq]
  simp [State.respond, h.notBusy, h.seqIdle]

/-- R97 for a command. -/
theorem exec_of_busy {i : Instr} {s : State} (hi : i.isEvent = false) (hbusy : s.fgBusy = true) :
    exec i s = .next s := by
  cases i with
  | captureF | captureR | capovf | winclose => cases hi
  | _ => exact congrArg _ (s.accept_of_busy _ hbusy)

/-- R97 for any word at all. -/
theorem commandPort_of_busy {s : State} (w : OpWord) (hbusy : s.fgBusy = true) : commandPort w s = .next s := by
  by_cases h : ∃ i : Instr, decode s.cfg w = .instr i ∧ i.isEvent = false
  · obtain ⟨i, hdecode, hi⟩ := h
    rw [commandPort_of_decode hdecode hi, exec_of_busy hi hbusy]
  · have hno : ∀ i : Instr, decode s.cfg w = .instr i → i.isEvent = true :=
      fun i hdecode => by_contra fun hi => h ⟨i, hdecode, Bool.eq_false_iff.2 hi⟩
    rw [commandPort_of_no_command hno, rejectOnPort_eq, if_pos hbusy]

/-- Settles O5: the head of the schedule is delivered or presented, decoded and run. -/
theorem stepRunsTheDecodedInstruction : Obligations.StepRunsTheDecodedInstruction :=
  fun _ w _ i hwf hdecode => ⟨fun h => (step_of_trace hwf h).trans (deliver_of_decode _ w i hdecode),
    fun h hi => (step_of_command hwf h).trans (commandPort_of_decode hdecode hi)⟩

/-- Settles O6: the opcodes from 0x10 to 0x13 are the events'. -/
theorem illFormedEventWordIsRefused : Obligations.IllFormedEventWordIsRefused :=
  fun _ _ _ _ hwf h hdecode hlo hhi =>
    (step_of_trace hwf h).trans (deliver_of_reservedOperand hdecode (decide_eq_true ⟨hlo, hhi⟩))

/-- Settles O7: such a word of a program goes to the command port, which refuses what is no command. -/
theorem nonCommandsOnThePortAreAnsweredIllegal : Obligations.NonCommandsOnThePortAreAnsweredIllegal := by
  intro s w rest hwf hidle h
  have hport (hno : ∀ i : Instr, decode s.cfg w = .instr i → i.isEvent = true) :
      commandPort w { s with schedule := rest } =
        .next { s with schedule := rest, strobes := .response Flag.illegal 0 :: s.strobes } :=
    (commandPort_of_no_command (s := { s with schedule := rest }) hno).trans
      (rejectOnPort_of_idle ⟨hidle.notBusy, hidle.seqIdle⟩)
  rcases h with ⟨hcommand, hno⟩ | ⟨htrace, hevent, hno⟩
  · exact (step_of_command hwf hcommand).trans (hport hno)
  · exact (step_of_trace hwf htrace).trans
      ((deliver_eq_commandPort _ hevent).trans (hport fun i hi => absurd hi (hno i)))

/-- Settles O8: the busy port ignores every word, and such a word of a program goes to it. -/
theorem busyPortIgnoresEveryWord : Obligations.BusyPortIgnoresEveryWord := by
  refine fun s hbusy => ⟨fun w rest hwf h => ?_, fun i hi => exec_of_busy hi hbusy⟩
  have hport : commandPort w { s with schedule := rest } = .next { s with schedule := rest } :=
    commandPort_of_busy w hbusy
  rcases h with hcommand | ⟨htrace, hevent⟩
  · exact (step_of_command hwf hcommand).trans hport
  · exact (step_of_trace hwf htrace).trans ((deliver_eq_commandPort _ hevent).trans hport)

/-! ## Responses -/

/-- A sample's request is no response. -/
theorem SamplePoint.isResponse_request (c : Cfg) (k : SamplePoint) : (k.request c).isResponse = false := by
  cases k with
  | incSearch l =>
    rw [request]
    split <;> rfl
  | _ => rfl

namespace State

/-- What a transition inside a command keeps. -/
def responseView (s : State) := (s.fgBusy, s.responseCount)

/-- R98 from `s` to `t`: one response if `t` is between commands, none otherwise. -/
def RespondsAtEnd (s t : State) : Prop := t.responseCount = s.responseCount + (if t.fgBusy then 0 else 1)

variable {s t : State}

theorem respondsAtEnd_of_responseView (hbusy : s.fgBusy = true) (h : t.responseView = s.responseView) :
    RespondsAtEnd s t := by
  obtain ⟨hbusy', hcount⟩ := Prod.mk.inj h
  rw [RespondsAtEnd, hcount, hbusy', hbusy]
  rfl

theorem respond_respondsAtEnd (s : State) (f : U8) (v : U32) : RespondsAtEnd s (s.respond f v) :=
  List.countP_cons_of_pos rfl

/-! ### Transitions that go on -/

theorem strobe_responseView (s : State) {o : Strobe} (h : o.isResponse = false) :
    (s.strobe o).responseView = s.responseView :=
  congrArg (Prod.mk s.fgBusy) (List.countP_cons_of_neg (Bool.eq_false_iff.1 h))

theorem adcConfigure_responseView (s : State) (ch : BitVec 2) (g : U8) :
    (s.adcConfigure ch g).responseView = s.responseView := by
  rcases s.adcConfigure_cases ch g with ⟨-, heq⟩ | ⟨-, heq⟩ <;>
    rw [heq]
  rfl

theorem decideRange_responseView (s : State) (freq : U32) : (s.decideRange freq).1.responseView = s.responseView := by
  unfold decideRange
  split
  · split <;> rfl
  · split
    · split <;> rfl
    · rfl

theorem reportIf_responseView (verbose : Bool) (p : State × U8) :
    (reportIf verbose p).1.responseView = p.1.responseView := by
  cases verbose <;> rfl

theorem pollRange_responseView (s : State) (verbose : Bool) : (s.pollRange verbose).responseView = s.responseView := by
  unfold pollRange
  split
  · exact (reportIf_responseView verbose _).trans (decideRange_responseView s.consumeWindow _)
  · rfl


/-! ### Transitions that may end the command -/

theorem updateTo_respondsAtEnd (hbusy : s.fgBusy = true) (mv : U16) (flags : U8) :
    RespondsAtEnd s (s.updateTo mv flags) := by
  unfold updateTo
  split
  · exact s.respond_respondsAtEnd _ _
  · exact respondsAtEnd_of_responseView hbusy (s.adcConfigure_responseView s.cfg.vbiasCh s.cfg.vbiasGain)

theorem updateFrom_respondsAtEnd (hbusy : s.fgBusy = true) (mv : U16) : RespondsAtEnd s (s.updateFrom mv) := by
  unfold updateFrom
  split
  · exact respondsAtEnd_of_responseView hbusy rfl
  · exact updateTo_respondsAtEnd hbusy mv 0

theorem recordSearch_respondsAtEnd (s : State) (l : Search) : RespondsAtEnd s (s.recordSearch l) :=
  respond_respondsAtEnd { s with requestedVoltageMv := l.t, lastMeasuredVoltageMv := l.m } _ _

theorem decLoop_respondsAtEnd (hbusy : s.fgBusy = true) (l : Search) : RespondsAtEnd s (s.decLoop l) := by
  unfold decLoop
  split
  · exact respondsAtEnd_of_responseView hbusy rfl
  · exact s.recordSearch_respondsAtEnd l

theorem decEntry_respondsAtEnd (hbusy : s.fgBusy = true) (l : Search) : RespondsAtEnd s (s.decEntry l) := by
  unfold decEntry
  split
  · exact respondsAtEnd_of_responseView hbusy rfl
  · exact decLoop_respondsAtEnd hbusy l

theorem incLoop_respondsAtEnd (hbusy : s.fgBusy = true) (l : Search) : RespondsAtEnd s (s.incLoop l) := by
  unfold incLoop
  split
  · exact respondsAtEnd_of_responseView hbusy rfl
  · exact s.recordSearch_respondsAtEnd l

theorem incEntry_respondsAtEnd (hbusy : s.fgBusy = true) (l : Search) : RespondsAtEnd s (s.incEntry l) := by
  unfold incEntry
  split
  · exact respondsAtEnd_of_responseView hbusy rfl
  · exact incLoop_respondsAtEnd hbusy l

theorem capEnterFirst_respondsAtEnd (hbusy : s.fgBusy = true) (k : U8) : RespondsAtEnd s (s.capEnterFirst k) := by
  unfold capEnterFirst
  split
  · exact s.respond_respondsAtEnd _ _
  · exact respondsAtEnd_of_responseView hbusy rfl

theorem rdregFirst_respondsAtEnd (hbusy : s.fgBusy = true) (n : U8) : RespondsAtEnd s (s.rdregFirst n) := by
  unfold rdregFirst
  split
  · exact respondsAtEnd_of_responseView hbusy rfl
  · exact s.respond_respondsAtEnd _ _

theorem vbiasEnableFirst_respondsAtEnd (hbusy : s.fgBusy = true) (mv : U16) :
    RespondsAtEnd s (s.vbiasEnableFirst mv) := by
  unfold vbiasEnableFirst
  split
  · exact respondsAtEnd_of_responseView hbusy rfl
  · exact s.respond_respondsAtEnd _ _

theorem vbiasUpdateFirst_respondsAtEnd (hbusy : s.fgBusy = true) (mv : U16) :
    RespondsAtEnd s (s.vbiasUpdateFirst mv) := by
  unfold vbiasUpdateFirst
  split
  · exact s.respond_respondsAtEnd _ _
  · exact updateFrom_respondsAtEnd hbusy mv

/-! ### The foreground's transitions and acceptance -/

theorem adcRsp_respondsAtEnd (hbusy : s.fgBusy = true) (code : U16) : RespondsAtEnd s (s.adcRsp code) := by
  obtain ⟨q, heq⟩ := s.adcRsp_eq_goto code
  rw [heq]
  exact respondsAtEnd_of_responseView hbusy rfl

theorem dlyDone_respondsAtEnd (hbusy : s.fgBusy = true) : RespondsAtEnd s s.dlyDone := by
  obtain ⟨q, heq⟩ := s.dlyDone_eq_goto
  rw [heq]
  exact respondsAtEnd_of_responseView hbusy rfl

theorem oracleAnswers_respondsAtEnd (hbusy : s.fgBusy = true) (k : SamplePoint) :
    RespondsAtEnd s (s.oracleAnswers k) := by
  obtain ⟨q, heq⟩ := s.oracleAnswers_eq_goto k
  rw [heq]
  exact respondsAtEnd_of_responseView hbusy rfl

theorem turn_respondsAtEnd (hbusy : s.fgBusy = true) : RespondsAtEnd s s.turn := by
  cases hq : s.seq
  all_goals simp only [turn, hq]
  case respond flags value => exact s.respond_respondsAtEnd flags value
  case delayDone d => exact dlyDone_respondsAtEnd hbusy
  case sample k => exact respondsAtEnd_of_responseView hbusy (s.strobe_responseView (k.isResponse_request s.cfg))
  case answer k => exact oracleAnswers_respondsAtEnd hbusy k
  case curEnterConfigure g =>
    exact respondsAtEnd_of_responseView hbusy (s.adcConfigure_responseView s.cfg.currentCh g)
  case enableUpdate mv => exact updateFrom_respondsAtEnd hbusy mv
  case updateClamped => exact updateTo_respondsAtEnd hbusy s.cfg.vbiasMinMv Flag.clamped
  case decEntry l => exact decEntry_respondsAtEnd hbusy l
  case decLoop l => exact decLoop_respondsAtEnd hbusy l
  case incEntry l => exact incEntry_respondsAtEnd hbusy l
  case incLoop l => exact incLoop_respondsAtEnd hbusy l
  case searchDone l => exact s.recordSearch_respondsAtEnd l
  case disConfigure =>
    exact respondsAtEnd_of_responseView hbusy (s.adcConfigure_responseView s.cfg.vbiasCh s.cfg.vbiasGain)
  case disRecord m =>
    exact respond_respondsAtEnd { s with lastMeasuredVoltageMv := m, requestedVoltageMv := 0 } 0 (zext32 m)
  all_goals exact respondsAtEnd_of_responseView hbusy rfl

/-- Acceptance itself shows no response (R96). -/
theorem accept_respondsAtEnd (hidle : s.fgBusy = false) {first : State → State}
    (hfirst : ∀ u : State, u.fgBusy = true → RespondsAtEnd u (first u)) : RespondsAtEnd s (s.accept first) := by
  rw [s.accept_of_idle first hidle]
  exact hfirst { s with fgBusy := true } rfl

end State

theorem Progress.run_respondsAtEnd {s : State} (hbusy : s.fgBusy = true) (p : Progress) :
    State.RespondsAtEnd s (p.run s) := by
  cases p with
  | turn => exact State.turn_respondsAtEnd hbusy
  | adcRsp code => exact State.adcRsp_respondsAtEnd hbusy code
  | dlyDone => exact State.dlyDone_respondsAtEnd hbusy

theorem exec_respondsAtEnd {s : State} (hidle : s.fgBusy = false) {i : Instr} (hi : i.isEvent = false) :
    ∃ t : State, exec i s = .next t ∧ State.RespondsAtEnd s t := by
  cases i
  case captureF | captureR | capovf | winclose => cases hi
  all_goals refine ⟨_, rfl, State.accept_respondsAtEnd hidle fun u hu => ?_⟩
  case capEnter k => exact State.capEnterFirst_respondsAtEnd hu k
  case rangePoll v => exact State.respondsAtEnd_of_responseView hu (u.pollRange_responseView v)
  case curRead a =>
    exact State.respondsAtEnd_of_responseView hu (u.adcConfigure_responseView u.cfg.currentCh u.curGain)
  case vbiasEnable mv => exact State.vbiasEnableFirst_respondsAtEnd hu mv
  case vbiasUpdate mv => exact State.vbiasUpdateFirst_respondsAtEnd hu mv
  case rdreg n => exact State.rdregFirst_respondsAtEnd hu n
  all_goals exact State.respondsAtEnd_of_responseView hu rfl

/-- Settles O51: only `Respond` clears the busy bit, and only `Respond` shows a response. This holds in every state, the
invariant is not needed. -/
theorem everyCommandEndsWithOneResponse : Obligations.EveryCommandEndsWithOneResponse :=
  fun _ _ => ⟨fun p hbusy => p.run_respondsAtEnd hbusy, fun _ hidle hi => exec_respondsAtEnd hidle hi⟩

end Machine

end Sys2Proof
end

section
/-! Proofs about the accumulator's events (40_accumulator_events.md): what a capture does with the flag clear and with
the flag set (R121), the window's count as a difference modulo the counter (R123 to R125), and event words run by the
machine (R122, R126). -/

namespace Sys2Proof.Machine

open Sys2Proof

/-! ## Captures -/

/-- A capture of either polarity after an overflow only clears the flag (R126). -/
theorem exec_capture_of_overflowFlag {s : State} (h : s.overflowFlag = true) {i : Instr} {w : U32}
    (hi : i = .captureF w ∨ i = .captureR w) : exec i s = .next { s with overflowFlag := false } := by
  have hcapture (pol : Bool) : s.capture pol w = s.discardPulse := if_pos h
  rcases hi with rfl | rfl
  · exact congrArg Host.Outcome.next (hcapture false)
  · exact congrArg Host.Outcome.next (hcapture true)

theorem exec_captureF_of_not_overflowFlag {s : State} (h : ¬ s.overflowFlag = true) (w : U32) :
    exec (.captureF w) s = .next (s.addFall w) :=
  congrArg Host.Outcome.next (if_neg h)

theorem exec_captureR_of_not_overflowFlag {s : State} (h : ¬ s.overflowFlag = true) (w : U32) :
    exec (.captureR w) s = .next (s.addRise w) :=
  congrArg Host.Outcome.next (if_neg h)

/-- Settles O17: the flag decides between discarding and adding, the polarity where to add. -/
theorem captureAddsOrDiscards : Obligations.CaptureAddsOrDiscards := by
  intro s w
  by_cases h : s.overflowFlag = true
  · rw [if_pos h, if_pos h]
    exact ⟨rfl, rfl, exec_capture_of_overflowFlag h (.inl rfl), exec_capture_of_overflowFlag h (.inr rfl)⟩
  · rw [if_neg h, if_neg h]
    exact ⟨rfl, rfl, exec_captureF_of_not_overflowFlag h w, exec_captureR_of_not_overflowFlag h w⟩

/-- Settles O18: the event has one branch. -/
theorem capovfSetsTheFlagAndCounts : Obligations.CapovfSetsTheFlagAndCounts := fun _ => ⟨rfl, rfl⟩

/-! ## The close of a window -/

/-- Settles O19: the event has one branch; R123's two are those of `windowCount`. -/
theorem wincloseLatchesTheWindow : Obligations.WincloseLatchesTheWindow := fun _ _ => ⟨rfl, rfl⟩

/-- R123 (b): in both branches the count leads from the previous raw value to the new one, modulo the counter. -/
theorem add_windowCount_modEq {bits : Nat} {prev : U32} (hprev : FitsIn bits prev) (raw : U32) :
    prev.toNat + windowCount bits prev raw ≡ raw.toNat [MOD 2 ^ bits] := by
  unfold windowCount
  split
  · have hsum : prev.toNat + (raw.toNat + 2 ^ bits - prev.toNat) = raw.toNat + 2 ^ bits := by omega
    rw [hsum]
    exact Nat.add_modEq_right
  · next h =>
    have hsum : prev.toNat + (raw.toNat - prev.toNat) = raw.toNat := Nat.add_sub_cancel' (Nat.le_of_not_lt h)
    rw [hsum]

/-- R125: the count is the number of edges, up to whole turns of the counter. -/
theorem windowCount_eq_mod {bits edges : Nat} {prev raw : U32} (hprev : FitsIn bits prev)
    (hraw : raw.toNat = (prev.toNat + edges) % 2 ^ bits) : windowCount bits prev raw = edges % 2 ^ bits := by
  have hfits : FitsIn bits raw := hraw.trans_lt (Nat.mod_lt _ (Nat.two_pow_pos bits))
  have hadvance : raw.toNat ≡ prev.toNat + edges [MOD 2 ^ bits] := hraw ▸ Nat.mod_modEq _ _
  have hcount : windowCount bits prev raw ≡ edges [MOD 2 ^ bits] :=
    Nat.ModEq.add_left_cancel' prev.toNat ((add_windowCount_modEq hprev raw).trans hadvance)
  exact (Nat.mod_eq_of_lt (State.windowCount_lt hprev hfits)).symm.trans hcount

/-- A residue of the counter fits 32 bits (R7). -/
theorem toNat_ofNat_mod_counter {c : Cfg} (hwf : c.wf = true) (n : Nat) :
    (BitVec.ofNat 32 (n % 2 ^ c.counterBits)).toNat = n % 2 ^ c.counterBits :=
  Nat.mod_eq_of_lt (Nat.lt_of_lt_of_le (Nat.mod_lt n (Nat.two_pow_pos _))
    (Nat.pow_le_pow_right Nat.two_pos (c.counterBits_le hwf)))

/-- Settles O20: the difference of the two raw values is the number of edges modulo the counter. -/
theorem windowCountIsTheEdgesModuloTheCounter : Obligations.WindowCountIsTheEdgesModuloTheCounter := by
  intro s edges hwf hprev
  refine ⟨s.closeWindow (s.rawAfter edges), rfl, ?_⟩
  have hcount : windowCount s.cfg.counterBits s.prevRawCount (s.rawAfter edges) = edges % 2 ^ s.cfg.counterBits :=
    windowCount_eq_mod hprev (toNat_ofNat_mod_counter hwf _)
  simp only [State.closeWindow, hcount, toNat_ofNat_mod_counter hwf]

/-! ## Words of a program, run by the machine -/

theorem run_succ_of_step {s t : State} (h : step s = .next t) (k : Nat) :
    Host.Core.run core (k + 1) s = Host.Core.run core k t := by
  have hcore : core.step s = .next t := h
  simp only [Host.Core.run, hcore]

/-- A well-formed operation at the head of a program is run (R91). -/
theorem step_of_trace_encode {s : State} {i : Instr} {rest : List Input} (hwf : s.cfg.wf = true)
    (hi : i.wf s.cfg = true) (h : s.schedule = .trace (encode i) :: rest) :
    step s = exec i { s with schedule := rest } :=
  have ⟨htrace, _⟩ := stepRunsTheDecodedInstruction s (encode i) rest i hwf (decodeOfEncodeIsTheInstruction s.cfg i hi)
  htrace h

theorem run_trace_encode {s t : State} {i : Instr} {rest : List Input} (hwf : s.cfg.wf = true)
    (hi : i.wf s.cfg = true) (h : exec i { s with schedule := rest } = .next t) (k : Nat) :
    Host.Core.run core (k + 1) { s with schedule := .trace (encode i) :: rest } = Host.Core.run core k t :=
  run_succ_of_step ((step_of_trace_encode (s := { s with schedule := .trace (encode i) :: rest }) hwf hi rfl).trans h) k

/-- What `n` overflows in a row leave behind, for `n` at least 1 (R122 (a)). -/
def State.afterOverflows (s : State) (n : Nat) : State :=
  { s with overflowFlag := true, consecutiveOverflowCount := s.consecutiveOverflowCount + BitVec.ofNat 32 n }

theorem State.captureOverflow_afterOverflows (s : State) (n : Nat) :
    s.captureOverflow.afterOverflows n = s.afterOverflows (n + 1) := by
  have hcount : s.consecutiveOverflowCount + 1 + BitVec.ofNat 32 n =
      s.consecutiveOverflowCount + BitVec.ofNat 32 (n + 1) := by
    rw [BitVec.add_assoc, BitVec.add_comm 1]
    exact congrArg _ (BitVec.ofNat_add n 1).symm
  simp only [captureOverflow, afterOverflows, hcount]

/-- R122 (a): overflows in a row set the flag once and are counted each. -/
theorem run_capovf_replicate {s : State} (hwf : s.cfg.wf = true) (n k : Nat) (rest : List Input) :
    Host.Core.run core (k + (n + 1))
        { s with schedule := List.replicate (n + 1) (.trace (encode .capovf)) ++ rest } =
      Host.Core.run core k { s.afterOverflows (n + 1) with schedule := rest } := by
  induction n generalizing s with
  | zero => exact run_trace_encode hwf rfl rfl k
  | succ n ih =>
    have hrest := ih (s := s.captureOverflow) hwf
    rw [s.captureOverflow_afterOverflows] at hrest
    exact (run_trace_encode hwf rfl rfl (k + (n + 1))).trans hrest

/-- Settles O21: the overflows set the flag, the first capture finds it set, the second finds it clear. -/
theorem overflowsDiscardExactlyOneCapture : Obligations.OverflowsDiscardExactlyOneCapture := by
  intro s k i w w' hwf hcapture hi hw'
  calc
    _ = Host.Core.run core 2 { s.afterOverflows (k + 1) with
          schedule := [.trace (encode i), .trace (encode (.captureR w'))] } := by
      rw [show k + 3 = 2 + (k + 1) by omega]
      exact run_capovf_replicate hwf k 2 _
    _ = Host.Core.run core 1 { (s.afterOverflows (k + 1)).discardPulse with
          schedule := [.trace (encode (.captureR w'))] } :=
      run_trace_encode (s := s.afterOverflows (k + 1)) hwf hi (exec_capture_of_overflowFlag rfl hcapture) 1
    _ = _ :=
      run_trace_encode (s := (s.afterOverflows (k + 1)).discardPulse) (i := .captureR w') hwf (decide_eq_true hw')
        (exec_captureR_of_not_overflowFlag Bool.false_ne_true w') 0

end Sys2Proof.Machine
end

section
/-! Proofs about the range controller (41_range_controller.md): `CAP.ENTER` and `CAP.EXIT` (R141, R146), the poll as a
decision and its answer (R142 to R148), and what moves the range (R150). -/

namespace Sys2Proof

/-- The two bounds do not cross (R7). -/
theorem Cfg.not_lt_lowBound_of_highBound_lt {c : Cfg} (hwf : c.wf = true) {f : U32} (h : c.freqHighBound < f) :
    ¬ f < c.freqLowBound :=
  fun hlow => Nat.lt_asymm h (Nat.lt_of_lt_of_le hlow (c.lowBound_le_highBound hwf))

namespace Machine

namespace State

variable {s : State} {f : U32}

/-! ## Commands from acceptance to response -/

/-- Between commands a response would be one more strobe and nothing else. -/
theorem respond_of_idle (h : s.Idle) (flags : U8) (value : U32) :
    s.respond flags value = s.strobe (.response flags value) := by
  simp [respond, strobe, h.notBusy, h.seqIdle]

theorem capEnterFirst_of_le {k : U8} (h : s.cfg.numFreqSettings ≤ k.toNat) : s.capEnterFirst k = s.refuse := if_pos h

theorem capEnterFirst_of_lt {k : U8} (h : k.toNat < s.cfg.numFreqSettings) :
    s.capEnterFirst k = (s.enterCapacitance k).goto .capEnterMux :=
  if_neg (Nat.not_le.2 h)

/-- R142 (a). -/
theorem pollRange_of_not_windowReady (h : s.windowReady = false) (v : Bool) :
    s.pollRange v = s.goto (.respond Flag.noop 0) :=
  if_neg (Bool.eq_false_iff.1 h)

/-! ## The range decision -/

/-- What an out-of-band window does, `i` being the index of the next range and `flag` the move's flag: R144 and R145 are
this in the two directions. -/
def countOrMove (s : State) (i : Nat) (flag : U8) : State × U8 :=
  if s.MovesNow then (s.moveRange i, flag) else (s.countOutOfBand, 0)

theorem countOrMove_of_movesNow (h : s.MovesNow) (i : Nat) (flag : U8) :
    s.countOrMove i flag = (s.moveRange i, flag) :=
  if_pos h

theorem countOrMove_of_not_movesNow (h : ¬ s.MovesNow) (i : Nat) (flag : U8) :
    s.countOrMove i flag = (s.countOutOfBand, 0) :=
  if_neg h

theorem decideRange_of_tooFast (h : s.TooFast f) :
    s.decideRange f = s.countOrMove (s.currentRangeIndex + 1) Flag.rangeUp :=
  if_pos h

theorem decideRange_of_tooSlow (hfast : ¬ s.TooFast f) (hslow : s.TooSlow f) :
    s.decideRange f = s.countOrMove (s.currentRangeIndex - 1) Flag.rangeDown :=
  (if_neg hfast).trans (if_pos hslow)

theorem decideRange_of_neither (hfast : ¬ s.TooFast f) (hslow : ¬ s.TooSlow f) :
    s.decideRange f = ({ s with consecutiveOutOfBandCount := 0 }, 0) :=
  (if_neg hfast).trans (if_neg hslow)

/-- The decision does not look at the busy bit, so that a poll decides as before its acceptance. -/
theorem decideRange_withBusy (s : State) (f : U32) (busy : Bool) :
    { s with fgBusy := busy }.decideRange f = ({ (s.decideRange f).1 with fgBusy := busy }, (s.decideRange f).2) := by
  unfold decideRange
  split
  · split <;> rfl
  · split
    · split <;> rfl
    · rfl

theorem decideRange_schedule (s : State) (f : U32) : (s.decideRange f).1.schedule = s.schedule := by
  unfold decideRange
  split
  · split <;> rfl
  · split
    · split <;> rfl
    · rfl

/-- A counted window leaves the index, and a move is what R144 and R145 say it is. -/
theorem countOrMove_of_index_ne {i : Nat} {flag : U8}
    (h : (s.countOrMove i flag).1.currentRangeIndex ≠ s.currentRangeIndex) :
    s.MovesNow ∧ (s.countOrMove i flag).1 = s.moveRange i := by
  by_cases hmoves : s.MovesNow
  · exact ⟨hmoves, congrArg Prod.fst (countOrMove_of_movesNow hmoves i flag)⟩
  · rw [countOrMove_of_not_movesNow hmoves] at h
    exact absurd rfl h

/-- A decision that changes the index is a move past the threshold, to a neighbour in the range list (R150). -/
theorem decideRange_of_index_ne (hindex : s.currentRangeIndex < s.cfg.numRanges)
    (h : (s.decideRange f).1.currentRangeIndex ≠ s.currentRangeIndex) :
    s.MovesNow ∧ ∃ i : Nat, (s.decideRange f).1 = s.moveRange i ∧ i < s.cfg.numRanges ∧
      (i = s.currentRangeIndex + 1 ∨ i + 1 = s.currentRangeIndex) := by
  by_cases hfast : s.TooFast f
  · rw [decideRange_of_tooFast hfast] at h ⊢
    obtain ⟨hmoves, heq⟩ := countOrMove_of_index_ne h
    exact ⟨hmoves, _, heq, hfast.2, .inl rfl⟩
  · by_cases hslow : s.TooSlow f
    · rw [decideRange_of_tooSlow hfast hslow] at h ⊢
      obtain ⟨hmoves, heq⟩ := countOrMove_of_index_ne h
      exact ⟨hmoves, _, heq, Nat.lt_of_le_of_lt (Nat.sub_le _ _) hindex, .inr (Nat.sub_add_cancel hslow.2)⟩
    · rw [decideRange_of_neither hfast hslow] at h
      exact absurd rfl h

/-- Under R32's bound the threshold is passed exactly from a counter that stands at it. -/
theorem movesNow_iff (hwf : s.cfg.wf = true) (hbound : s.consecutiveOutOfBandCount ≤ s.cfg.hystThreshold) :
    s.MovesNow ↔ s.consecutiveOutOfBandCount = s.cfg.hystThreshold := by
  have hlt := s.cfg.hystThreshold_lt hwf
  unfold MovesNow
  bv_omega

/-! ## The answer of a poll -/

/-- The decision that a poll of a ready window makes (R142). -/
def pollDecision (s : State) : State × U8 := s.consumeWindow.decideRange s.freqEstimate

/-- The report and the response that follow the decision `d` on a window with estimate `f` (R142, R148). -/
def answerPoll (v : Bool) (f : U32) (d : State × U8) : State := (reportIf v d).1.respond (reportIf v d).2 f

/-- The state after the report, with the response of `answerPoll` still to come. -/
def awaitResponse (v : Bool) (f : U32) (d : State × U8) : State :=
  { (reportIf v d).1 with fgBusy := true, seq := .respond (reportIf v d).2 f }

/-- The response is the poll's last micro-step (R98). -/
theorem turns_one_awaitResponse (v : Bool) (f : U32) (d : State × U8) :
    (awaitResponse v f d).turns 1 = answerPoll v f d :=
  rfl

theorem pollRange_of_windowReady (h : s.windowReady = true) (v : Bool) :
    s.pollRange v = (reportIf v s.pollDecision).1.goto (.respond (reportIf v s.pollDecision).2 s.freqEstimate) :=
  if_pos h

/-- An accepted poll decides as the state before its acceptance would. -/
theorem pollDecision_withBusy (s : State) (busy : Bool) :
    { s with fgBusy := busy }.pollDecision = ({ s.pollDecision.1 with fgBusy := busy }, s.pollDecision.2) :=
  s.consumeWindow.decideRange_withBusy s.freqEstimate busy

theorem reportIf_rangeView (v : Bool) (d : State × U8) : (reportIf v d).1.rangeView = d.1.rangeView := by
  cases v <;> rfl

theorem pollRange_rangeView (h : s.windowReady = true) (v : Bool) :
    (s.pollRange v).rangeView = s.pollDecision.1.rangeView := by
  rw [pollRange_of_windowReady h]
  exact reportIf_rangeView v s.pollDecision

theorem reportIf_flags (v : Bool) (d : State × U8) :
    (reportIf v d).2 = d.2 ||| (if v then Flag.report else 0) := by
  cases v with
  | false => exact BitVec.or_zero.symm
  | true => rfl

theorem reportIf_idle {d : State × U8} (h : d.1.Idle) (v : Bool) : (reportIf v d).1.Idle := by
  cases v <;> exact ⟨h.notBusy, h.seqIdle⟩

theorem answerPoll_of_idle {d : State × U8} (h : d.1.Idle) {v : Bool} {flags : U8} (hflags : (reportIf v d).2 = flags)
    (f : U32) : answerPoll v f d = (reportIf v d).1.strobe (.response flags f) := by
  subst hflags
  exact respond_of_idle (reportIf_idle h v) _ f

/-- What an answered poll of an out-of-band window leaves: the counter, or the index, the mux and the flag (R142, R144,
R145, R148). -/
theorem answerPoll_countOrMove (hidle : s.Idle) (v : Bool) (f : U32) {i idx : Nat} {flag : U8} {moves : Bool}
    {ports : List Strobe} (hmoves : moves = decide s.MovesNow) (hidx : idx = if moves then i else s.currentRangeIndex)
    (hports : ports = if v then .report ⟨number32 s.freqSetting, s.lastFallAcc, s.oscFreqCnt,
      s.cfg.rangeHalfValue idx, s.cfg.calThreshold1, s.cfg.calThreshold2⟩ :: s.strobes else s.strobes) :
    answerPoll v f (s.consumeWindow.countOrMove i flag) = { s with
      windowReady := false
      consecutiveOverflowCount := 0
      consecutiveOutOfBandCount := if moves then 0 else s.consecutiveOutOfBandCount + 1
      currentRangeIndex := idx
      pins := if moves then { s.pins with rselId := s.cfg.rangeId idx, rselEn := true } else s.pins
      strobes := .response ((if moves then flag else 0) ||| (if v then Flag.report else 0)) f :: ports } := by
  subst hidx hports
  by_cases h : s.MovesNow
  · obtain rfl : moves = true := hmoves.trans (decide_eq_true h)
    rw [countOrMove_of_movesNow (s := s.consumeWindow) h,
      answerPoll_of_idle ⟨hidle.notBusy, hidle.seqIdle⟩ (reportIf_flags v _)]
    cases v <;> rfl
  · obtain rfl : moves = false := hmoves.trans (decide_eq_false h)
    rw [countOrMove_of_not_movesNow (s := s.consumeWindow) h,
      answerPoll_of_idle ⟨hidle.notBusy, hidle.seqIdle⟩ (reportIf_flags v _)]
    cases v <;> rfl

/-- What an answered poll leaves where the range is kept and nothing is counted (R142, R147, R148). -/
theorem answerPoll_zeroed (hidle : s.Idle) (v : Bool) (f : U32) {ports : List Strobe}
    (hports : ports = if v then .report ⟨number32 s.freqSetting, s.lastFallAcc, s.oscFreqCnt,
      s.cfg.rangeHalfValue s.currentRangeIndex, s.cfg.calThreshold1, s.cfg.calThreshold2⟩ :: s.strobes
      else s.strobes) :
    answerPoll v f ({ s.consumeWindow with consecutiveOutOfBandCount := 0 }, 0) = { s with
      windowReady := false
      consecutiveOverflowCount := 0
      consecutiveOutOfBandCount := 0
      strobes := .response (if v then Flag.report else 0) f :: ports } := by
  subst hports
  have hflags : (reportIf v ({ s.consumeWindow with consecutiveOutOfBandCount := 0 }, 0)).2 =
      if v then Flag.report else 0 :=
    (reportIf_flags v _).trans BitVec.zero_or
  rw [answerPoll_of_idle ⟨hidle.notBusy, hidle.seqIdle⟩ hflags]
  cases v <;> rfl

end State

/-! ## The commands -/

/-- Settles O23: the two branches of the bound, and the two transitions after the atomic group. -/
theorem capEnterZeroesAndSelectsOrRefuses : Obligations.CapEnterZeroesAndSelectsOrRefuses := by
  intro s k hidle
  have haccept : exec (.capEnter k) s = .next ({ s with fgBusy := true }.capEnterFirst k) :=
    congrArg Host.Outcome.next (s.accept_of_idle _ hidle.notBusy)
  refine ⟨rfl, fun hk => ?_, fun hk => ⟨_, haccept, State.capEnterFirst_of_lt hk, ?_⟩⟩
  · rw [haccept, State.capEnterFirst_of_le (s := { s with fgBusy := true }) hk]
    exact congrArg Host.Outcome.next (State.respond_of_idle hidle Flag.illegal 0)
  · rw [State.capEnterFirst_of_lt (s := { s with fgBusy := true }) hk]
    exact State.respond_of_idle (s := (s.enterCapacitance k).setResistorRange s.currentRangeIndex)
      ⟨hidle.notBusy, hidle.seqIdle⟩ 0 0

/-- Settles O24: one micro-step and the response. -/
theorem capExitDisablesTheMux : Obligations.CapExitDisablesTheMux := by
  intro s hidle
  refine ⟨rfl, _, congrArg Host.Outcome.next (s.accept_of_idle _ hidle.notBusy), rfl, ?_⟩
  exact State.respond_of_idle (s := { s with pins := { s.pins with rselEn := false } })
    ⟨hidle.notBusy, hidle.seqIdle⟩ 0 0

/-- Settles O25: the poll only moves the sequencer to its response. -/
theorem rangePollWithoutWindowIsANoop : Obligations.RangePollWithoutWindowIsANoop := by
  intro s v hidle hready
  have hpoll : s.accept (·.pollRange v) = { s with fgBusy := true, seq := .respond Flag.noop 0 } :=
    (s.accept_of_idle _ hidle.notBusy).trans
      (State.pollRange_of_not_windowReady (s := { s with fgBusy := true }) hready v)
  refine ⟨rfl, _, rfl, hpoll, ?_⟩
  rw [hpoll]
  exact State.respond_of_idle hidle Flag.noop 0

/-- A poll of a ready window, accepted, has decided and has its response to come. -/
theorem exec_rangePoll_of_ready {s : State} (hidle : s.Idle) (h : s.windowReady = true) (v : Bool) :
    exec (.rangePoll v) s = .next (State.awaitResponse v s.freqEstimate s.pollDecision) := by
  refine congrArg Host.Outcome.next ((s.accept_of_idle _ hidle.notBusy).trans ?_)
  rw [State.pollRange_of_windowReady (s := { s with fgBusy := true }) h, s.pollDecision_withBusy true]
  cases v <;> rfl

/-- Settles O26: the decision on a window that is too fast, answered. -/
theorem rangePollTooFastCountsOrMovesUp : Obligations.RangePollTooFastCountsOrMovesUp := by
  rintro s v f hidle hready rfl hhigh hindex
  have hdecide : s.pollDecision = s.consumeWindow.countOrMove (s.currentRangeIndex + 1) Flag.rangeUp :=
    State.decideRange_of_tooFast ⟨hhigh, hindex⟩
  refine ⟨rfl, _, _, _, _, exec_rangePoll_of_ready hidle hready v, rfl, rfl, rfl, ?_⟩
  rw [State.turns_one_awaitResponse, hdecide]
  exact State.answerPoll_countOrMove hidle v s.freqEstimate rfl rfl rfl

/-- Settles O27: the decision on a window that is too slow, which is not too fast as well, answered. -/
theorem rangePollTooSlowCountsOrMovesDown : Obligations.RangePollTooSlowCountsOrMovesDown := by
  rintro s v f hwf hidle hready rfl hlow hindex
  have hfast : ¬ s.TooFast s.freqEstimate := fun hfast => Cfg.not_lt_lowBound_of_highBound_lt hwf hfast.1 hlow
  have hdecide : s.pollDecision = s.consumeWindow.countOrMove (s.currentRangeIndex - 1) Flag.rangeDown :=
    State.decideRange_of_tooSlow hfast ⟨hlow, hindex⟩
  refine ⟨rfl, _, _, _, _, exec_rangePoll_of_ready hidle hready v, rfl, rfl, rfl, ?_⟩
  rw [State.turns_one_awaitResponse, hdecide]
  exact State.answerPoll_countOrMove hidle v s.freqEstimate rfl rfl rfl

/-- Settles O28: in each of R147's cases the window is neither too fast nor too slow. -/
theorem rangePollOtherwiseZeroesTheCounter : Obligations.RangePollOtherwiseZeroesTheCounter := by
  rintro s v f hwf hidle hready rfl hcases
  obtain ⟨hfast, hslow⟩ : ¬ s.TooFast s.freqEstimate ∧ ¬ s.TooSlow s.freqEstimate := by
    rcases hcases with ⟨hlow, hhigh⟩ | ⟨hhigh, htop⟩ | ⟨hlow, hbottom⟩
    · exact ⟨fun hfast => Nat.not_le.2 hfast.1 hhigh, fun hslow => Nat.not_le.2 hslow.1 hlow⟩
    · exact ⟨fun hfast => by omega, fun hslow => Cfg.not_lt_lowBound_of_highBound_lt hwf hhigh hslow.1⟩
    · exact ⟨fun hfast => Cfg.not_lt_lowBound_of_highBound_lt hwf hfast.1 hlow, fun hslow => by omega⟩
  have hdecide : s.pollDecision = ({ s.consumeWindow with consecutiveOutOfBandCount := 0 }, 0) :=
    State.decideRange_of_neither hfast hslow
  refine ⟨rfl, _, _, exec_rangePoll_of_ready hidle hready v, rfl, ?_⟩
  rw [State.turns_one_awaitResponse, hdecide]
  exact State.answerPoll_zeroed hidle v s.freqEstimate rfl

/-! ## What moves the range -/

/-- Of all operations only a poll writes the index (R48). -/
theorem exec_currentRangeIndex {i : Instr} (hi : ∀ v : Bool, i ≠ .rangePoll v) {s t : State}
    (h : exec i s = .next t) : t.currentRangeIndex = s.currentRangeIndex := by
  obtain ⟨u, hu, hframe⟩ := exec_frame i s
  obtain rfl := Host.Outcome.next.inj (h.symm.trans hu)
  cases i with
  | rangePoll v => exact absurd rfl (hi v)
  | captureF | captureR | capovf | winclose =>
    obtain ⟨-, hrange, -⟩ := hframe
    exact hrange.currentRangeIndex
  | curEnter | curRead | curExit | vbiasEnable | vbiasUpdate | vbiasDisable =>
    obtain ⟨-, -, hrange, -⟩ := hframe
    exact hrange.currentRangeIndex
  | capEnter k =>
    obtain rfl := Host.Outcome.next.inj h
    refine s.accept_view _ (fun u => ?_) rfl
    unfold State.capEnterFirst
    split <;> rfl
  | capExit =>
    obtain rfl := Host.Outcome.next.inj h
    exact s.accept_view _ (fun _ => rfl) rfl
  | rdreg n =>
    obtain rfl := Host.Outcome.next.inj h
    refine s.accept_view _ (fun u => ?_) rfl
    unfold State.rdregFirst
    split <;> rfl

/-- An idle port accepts the poll: a busy one would leave the index as it is (R97). -/
theorem fgBusy_of_index_ne {s : State} {first : State → State}
    (h : (s.accept first).currentRangeIndex ≠ s.currentRangeIndex) : s.fgBusy = false := by
  by_contra hbusy
  rw [s.accept_of_busy first (Bool.of_not_eq_false hbusy)] at h
  exact h rfl

/-- R150 for the poll itself, once accepted: it has found a ready window (R142 (a)), and the move is the decision's. -/
theorem pollRange_of_index_ne {s : State} {v : Bool} (hindex : s.currentRangeIndex < s.cfg.numRanges)
    (h : (s.pollRange v).currentRangeIndex ≠ s.currentRangeIndex) :
    s.windowReady = true ∧ s.MovesNow ∧ (s.pollRange v).consecutiveOutOfBandCount = 0 ∧
      (s.pollRange v).currentRangeIndex < s.cfg.numRanges ∧
      ((s.pollRange v).currentRangeIndex = s.currentRangeIndex + 1 ∨
        (s.pollRange v).currentRangeIndex + 1 = s.currentRangeIndex) := by
  cases hready : s.windowReady with
  | false =>
    rw [State.pollRange_of_not_windowReady hready] at h
    exact absurd rfl h
  | true =>
    obtain ⟨hidx, hview⟩ := Prod.mk.inj (State.pollRange_rangeView hready v)
    obtain ⟨hcount, -⟩ := Prod.mk.inj hview
    rw [hidx] at h
    obtain ⟨hmoves, i, hmove, hbound, hstep⟩ := State.decideRange_of_index_ne (s := s.consumeWindow) hindex h
    have hi : s.pollDecision.1.currentRangeIndex = i := congrArg State.currentRangeIndex hmove
    rw [hidx, hcount, hi]
    exact ⟨rfl, hmoves, congrArg State.consecutiveOutOfBandCount hmove, hbound, hstep⟩

/-- Settles O29: only a poll writes the index, and its decision moves the range past the threshold, which under the
invariant is a counter at the threshold. -/
theorem rangeMovesOneStepAndOnlyPastTheThreshold : Obligations.RangeMovesOneStepAndOnlyPastTheThreshold := by
  intro s t i hs hexec hne
  by_cases hi : ∃ v : Bool, i = .rangePoll v
  · obtain ⟨v, rfl⟩ := hi
    obtain rfl := Host.Outcome.next.inj hexec
    have haccept := s.accept_of_idle (·.pollRange v) (fgBusy_of_index_ne hne)
    rw [haccept] at hne ⊢
    obtain ⟨hready, hmoves, hcount, hbound, hstep⟩ :=
      pollRange_of_index_ne (s := { s with fgBusy := true }) hs.rangeInBounds hne
    have hat : s.consecutiveOutOfBandCount = s.cfg.hystThreshold :=
      (State.movesNow_iff hs.cfgWf hs.hysteresisBounded).1 hmoves
    exact ⟨⟨v, rfl⟩, hready, State.pollRange_windowReady _ v, hat, hcount, hbound, hstep⟩
  · exact absurd (exec_currentRangeIndex (not_exists.1 hi) hexec) hne

/-! ## Windows run by the machine -/

namespace State

/-- `s` after a window of `edges` edges has been closed, with the turn of the poll's response still to come. -/
def closedWindow (edges : Nat) (s : State) : State := { s.closeWindow (s.rawAfter edges) with schedule := [.turn] }

/-- `s` after a polled window. -/
def afterPolledWindow (edges : Nat) (s : State) : State :=
  { answerPoll false (s.closedWindow edges).freqEstimate (s.closedWindow edges).pollDecision with schedule := [] }

/-- A window of `edges` edges is above the high bound, and there is a range to move up to. -/
structure SeesHigh (edges : Nat) (s : State) : Prop where
  inv : s.Inv
  idle : s.Idle
  fits : edges < 2 ^ s.cfg.counterBits
  high : s.cfg.freqHighBound < BitVec.ofNat 32 edges <<< s.cfg.freqShift s.freqSetting
  notHighest : s.currentRangeIndex + 1 < s.cfg.numRanges

variable {s : State} {edges : Nat}

/-- The window closes, the poll decides, and the turn responds. -/
theorem polledWindow_afterPolledWindow (hs : s.Inv) (hidle : s.Idle) :
    PolledWindow edges s (s.afterPolledWindow edges) ∧ (s.afterPolledWindow edges).Inv := by
  have hraw : (Instr.winclose (s.rawAfter edges)).wf s.cfg = true :=
    decide_eq_true ((toNat_ofNat_mod_counter hs.cfgWf _).trans_lt (Nat.mod_lt _ (Nat.two_pow_pos _)))
  have hclosed : (s.closedWindow edges).Inv := (exec_inv hs hraw rfl).withSchedule _
  have hpoll : exec (.rangePoll false) (s.closedWindow edges) = .next
      (awaitResponse false (s.closedWindow edges).freqEstimate (s.closedWindow edges).pollDecision) :=
    exec_rangePoll_of_ready (s := s.closedWindow edges) ⟨hidle.notBusy, hidle.seqIdle⟩ rfl false
  have hpolled := exec_inv hclosed rfl hpoll
  have hsched := (s.closedWindow edges).consumeWindow.decideRange_schedule (s.closedWindow edges).freqEstimate
  refine ⟨?_, turn_inv (hpolled.withSchedule [])⟩
  calc
    _ = Host.Core.run core 2
        { s.closeWindow (s.rawAfter edges) with schedule := [.trace (encode (.rangePoll false)), .turn] } :=
      run_trace_encode hs.cfgWf hraw rfl 2
    _ = Host.Core.run core 1
        (awaitResponse false (s.closedWindow edges).freqEstimate (s.closedWindow edges).pollDecision) :=
      run_trace_encode (s := s.closeWindow (s.rawAfter edges)) hs.cfgWf rfl hpoll 1
    _ = .next (s.afterPolledWindow edges) :=
      run_succ_of_step ((step_of_wf _ hpolled.cfgWf).trans (transition_of_progress (p := .turn) hsched)) 0

/-- R125, R143: the estimate is that of the window's edges. -/
theorem freqEstimate_closedWindow (hs : s.Inv) (hedges : edges < 2 ^ s.cfg.counterBits) :
    (s.closedWindow edges).freqEstimate = BitVec.ofNat 32 edges <<< s.cfg.freqShift s.freqSetting := by
  have hcount : windowCount s.cfg.counterBits s.prevRawCount (s.rawAfter edges) = edges :=
    (windowCount_eq_mod hs.rawFits (toNat_ofNat_mod_counter hs.cfgWf _)).trans (Nat.mod_eq_of_lt hedges)
  simp only [freqEstimate, closedWindow, closeWindow, hcount]

theorem SeesHigh.pollDecision_closedWindow (h : s.SeesHigh edges) :
    (s.closedWindow edges).pollDecision =
      (s.closedWindow edges).consumeWindow.countOrMove (s.currentRangeIndex + 1) Flag.rangeUp := by
  have hhigh : s.cfg.freqHighBound < (s.closedWindow edges).freqEstimate :=
    (freqEstimate_closedWindow h.inv h.fits).symm ▸ h.high
  exact decideRange_of_tooFast (s := (s.closedWindow edges).consumeWindow) ⟨hhigh, h.notHighest⟩

/-- Below the threshold a high window is counted, and the next one can follow. -/
theorem SeesHigh.counted (h : s.SeesHigh edges) (hne : s.consecutiveOutOfBandCount ≠ s.cfg.hystThreshold) :
    ∃ t : State, PolledWindow edges s t ∧ t.SeesHigh edges ∧ t.cfg = s.cfg ∧
      t.currentRangeIndex = s.currentRangeIndex ∧ t.consecutiveOutOfBandCount = s.consecutiveOutOfBandCount + 1 := by
  have hmoves : ¬ s.MovesNow := fun hmoves => hne ((movesNow_iff h.inv.cfgWf h.inv.hysteresisBounded).1 hmoves)
  have hdecide := h.pollDecision_closedWindow.trans
    (countOrMove_of_not_movesNow (s := (s.closedWindow edges).consumeWindow) hmoves _ _)
  have hrun := polledWindow_afterPolledWindow (edges := edges) h.inv h.idle
  rw [afterPolledWindow, hdecide] at hrun
  exact ⟨_, hrun.1, ⟨hrun.2, ⟨rfl, rfl⟩, h.fits, h.high, h.notHighest⟩, rfl, rfl, rfl⟩

/-- At the threshold a high window moves the range up. -/
theorem SeesHigh.moved (h : s.SeesHigh edges) (heq : s.consecutiveOutOfBandCount = s.cfg.hystThreshold) :
    ∃ t : State, PolledWindow edges s t ∧ t.Idle ∧
      t.currentRangeIndex = s.currentRangeIndex + 1 ∧ t.consecutiveOutOfBandCount = 0 := by
  have hmoves : s.MovesNow := (movesNow_iff h.inv.cfgWf h.inv.hysteresisBounded).2 heq
  have hdecide := h.pollDecision_closedWindow.trans
    (countOrMove_of_movesNow (s := (s.closedWindow edges).consumeWindow) hmoves _ _)
  have hrun := polledWindow_afterPolledWindow (edges := edges) h.inv h.idle
  rw [afterPolledWindow, hdecide] at hrun
  exact ⟨_, hrun.1, ⟨rfl, rfl⟩, rfl, rfl⟩

/-- One more window at the end. -/
theorem PolledWindows.snoc {k : Nat} {t u : State} (hwindows : PolledWindows edges k s t)
    (hwindow : PolledWindow edges t u) : PolledWindows edges (k + 1) s u := by
  induction k generalizing s with
  | zero =>
    obtain rfl : t = s := hwindows
    exact ⟨u, hwindow, rfl⟩
  | succ k ih =>
    obtain ⟨r, hfirst, hrest⟩ := hwindows
    exact ⟨r, hfirst, ih hrest⟩

/-- Up to the threshold every high window is counted. -/
theorem SeesHigh.polledWindows (h : s.SeesHigh edges) (hzero : s.consecutiveOutOfBandCount = 0) {k : Nat}
    (hk : k ≤ s.cfg.hystThreshold.toNat) :
    ∃ t : State, PolledWindows edges k s t ∧ t.SeesHigh edges ∧ t.cfg = s.cfg ∧
      t.currentRangeIndex = s.currentRangeIndex ∧ t.consecutiveOutOfBandCount = BitVec.ofNat 32 k := by
  induction k with
  | zero => exact ⟨s, rfl, h, rfl, rfl, hzero⟩
  | succ k ih =>
    obtain ⟨t, hwindows, ht, hcfg, hindex, hcount⟩ := ih (Nat.le_of_succ_le hk)
    have hne : t.consecutiveOutOfBandCount ≠ t.cfg.hystThreshold := by
      rw [hcount, hcfg]
      intro heq
      have hmod := congrArg BitVec.toNat heq
      rw [BitVec.toNat_ofNat] at hmod
      have hle := Nat.mod_le k (2 ^ 32)
      omega
    obtain ⟨u, hwindow, hu, hcfg', hindex', hcount'⟩ := ht.counted hne
    refine ⟨u, hwindows.snoc hwindow, hu, hcfg'.trans hcfg, hindex'.trans hindex, ?_⟩
    rw [hcount', hcount]
    exact (BitVec.ofNat_add k 1).symm

end State

/-- Settles O30: the windows up to the threshold are counted, and the one after them moves the range. -/
theorem highWindowsMoveTheRangeExactlyOnce : Obligations.HighWindowsMoveTheRangeExactlyOnce := by
  intro s edges k hs hidle hzero hedges hhigh hindex hk
  have hsees : s.SeesHigh edges := ⟨hs, hidle, hedges, hhigh, hindex⟩
  rcases Nat.lt_or_eq_of_le hk with hlt | rfl
  · obtain ⟨t, hwindows, ht, -, hkept, hcount⟩ := hsees.polledWindows hzero (Nat.le_of_lt_succ hlt)
    exact ⟨t, hwindows, ht.idle, fun _ => ⟨hkept, hcount⟩, fun heq => absurd heq (Nat.ne_of_lt hlt)⟩
  · obtain ⟨t, hwindows, ht, hcfg, hkept, hcount⟩ := hsees.polledWindows hzero le_rfl
    have hat : t.consecutiveOutOfBandCount = t.cfg.hystThreshold := by
      rw [hcount, hcfg]
      exact BitVec.ofNat_toNat 32 s.cfg.hystThreshold
    obtain ⟨u, hwindow, hu, hmoved, hcleared⟩ := ht.moved hat
    exact ⟨u, hwindows.snoc hwindow, hu, fun hle => absurd hle (Nat.not_succ_le_self _),
      fun _ => ⟨hmoved.trans (congrArg (· + 1) hkept), hcleared⟩⟩

end Machine

end Sys2Proof
end

section
/-! Proofs about current measurement mode (42_current_mode.md): `CUR.ENTER` (R161), `CUR.READ` (R162) and `CUR.EXIT`
(R163). Each is accepted at once, and its later transitions end in the response. -/

namespace Sys2Proof.Machine

namespace State

variable {s : State}

/-! ## The transitions after acceptance -/

/-- A response brings back the busy bit and the position of the sequencer that an idle state has. -/
theorem respond_restores_idle (h : s.Idle) (t : State) (f : U8) (v : U32) :
    t.respond f v = { t with fgBusy := s.fgBusy, seq := s.seq, strobes := .response f v :: t.strobes } := by
  rw [h.notBusy, h.seqIdle]
  rfl

theorem turns_one_of_respond {f : U8} {v : U32} (h : s.seq = .respond f v) : s.turns 1 = s.respond f v := by
  simp only [turns_succ, turns_zero, turn, h]

/-- The last two transitions of `CUR.ENTER`: the ADC, then the response (R161). -/
theorem turns_two_of_curEnterConfigure {g : U8} (h : s.seq = .curEnterConfigure g) :
    s.turns 2 = (s.adcConfigure s.cfg.currentCh g).respond 0 0 := by
  have hturn : s.turn = (s.adcConfigure s.cfg.currentCh g).goto (.respond 0 0) := by
    simp only [turn, h, curEnterConfigure]
  rw [turns_succ, hturn, turns_one_of_respond (goto_seq _ _)]
  rfl

/-- The last three transitions of `CUR.READ`: the request, the oracle's answer, and its raw code in the response
(R162). -/
theorem turns_three_of_sample_curRead {a : U8} (h : s.seq = .sample (.curRead a)) :
    s.turns 3 = ({ s with oracle := s.oracle.advance }.strobe (.adcAverage s.cfg.currentCh a)).respond 0
      (s.oracle.answer.setWidth 32) := by
  rw [turns_succ, turn_of_sample h, turns_succ, turn_of_answer (goto_seq _ _)]
  exact turns_one_of_respond rfl

end State

/-! ## The commands -/

/-- Settles O32: `AdcConfigure` writes `adcCfg` in both cases and asks in one of them. -/
theorem curEnterConfiguresTheChain : Obligations.CurEnterConfiguresTheChain := by
  intro s g hidle
  refine ⟨rfl, _, congrArg Host.Outcome.next (s.accept_of_idle _ hidle.notBusy), rfl, ?_⟩
  rw [State.turns_two_of_curEnterConfigure rfl, State.adcConfigure_eq]
  exact State.respond_restores_idle hidle _ 0 0

/-- Settles O33: `AdcConfigure` is part of the acceptance, and the sample's three transitions follow. -/
theorem curReadSamplesOnce : Obligations.CurReadSamplesOnce := by
  intro s a hidle
  have haccept : s.accept (·.curReadFirst a) =
      ({ s with fgBusy := true }.adcConfigure s.cfg.currentCh s.curGain).goto (.sample (.curRead a)) :=
    s.accept_of_idle _ hidle.notBusy
  rw [State.adcConfigure_eq] at haccept
  refine ⟨rfl, _, _, congrArg Host.Outcome.next haccept, rfl, rfl, ?_⟩
  rw [State.turns_three_of_sample_curRead rfl]
  exact State.respond_restores_idle hidle _ 0 _

/-- Settles O34: one pin write and the response. -/
theorem curExitTurnsTheAmplifierOff : Obligations.CurExitTurnsTheAmplifierOff := by
  intro s hidle
  refine ⟨rfl, _, congrArg Host.Outcome.next (s.accept_of_idle _ hidle.notBusy), rfl, ?_⟩
  rw [State.turns_one_of_respond rfl]
  exact State.respond_restores_idle hidle _ 0 0

end Sys2Proof.Machine
end

section
/-! Proofs about the bias servo (43_bias_servo.md): `VBIAS.UPDATE` and `VBIAS.ENABLE` up to the entry of a search (R171
to R176), and the two searches (R177 to R183). A delay and a sample are two transitions each, and one lemma each. -/

namespace Sys2Proof.Machine

open Sys2Proof

namespace State

variable {s : State} {mv : U16}

/-! ## Delays and samples as two transitions -/

/-- A delay as a whole (R70): the request is on the port, and the sequencer stands at what comes next. -/
theorem turns_two_of_delay {d : DelayPoint} (h : s.seq = .delay d) :
    s.turns 2 = (s.delay (d.setting s.cfg)).goto d.after := by
  rw [turns_succ, turn_of_delay h, turns_succ, turn_of_delayDone (goto_seq _ _), dlyDone_of_delayDone _ d rfl]
  rfl

/-- A sample that the oracle answers, as a whole (R66, R67). -/
theorem turns_two_of_sample {k : SamplePoint} (h : s.seq = .sample k) :
    s.turns 2 = ({ s with oracle := s.oracle.advance }.strobe (k.request s.cfg)).answered k s.oracle.answer := by
  rw [turns_succ, turn_of_sample h, turns_succ, turn_of_answer (goto_seq _ _), turns_zero]
  cases k <;> rfl

/-! ## `VBIAS.UPDATE` and `VBIAS.ENABLE` -/

/-- `s` with a command accepted and nothing of it done (R96). -/
def busy (s : State) : State := { s with fgBusy := true }

theorem accept_eq_busy (h : s.Idle) (first : State → State) : s.accept first = first s.busy :=
  s.accept_of_idle first h.notBusy

/-- A refusal at acceptance shows the response and changes nothing else (R95, R213). -/
theorem refuse_busy (h : s.Idle) : s.busy.refuse = { s with strobes := .response Flag.illegal 0 :: s.strobes } :=
  respond_restores_idle h s.busy Flag.illegal 0

/-- R176. -/
theorem updateTo_of_eq (h : mv = s.requestedVoltageMv) (f : U8) :
    s.updateTo mv f = s.respond (f ||| Flag.noop) (zext32 s.lastMeasuredVoltageMv) :=
  if_pos h

/-- R174's direction. -/
theorem updateTo_of_ne (h : mv ≠ s.requestedVoltageMv) (f : U8) :
    s.updateTo mv f = (s.adcConfigure s.cfg.vbiasCh s.cfg.vbiasGain).goto
      (if mv < s.requestedVoltageMv then .decEntry ⟨mv, s.lastMeasuredVoltageMv, false, true, f⟩
        else .incEntry ⟨mv, s.lastMeasuredVoltageMv, false, true, f⟩) :=
  if_neg h

/-- The clamp of R175 with its pin write. -/
def clampQuench (s : State) : State := { s with pins := { s.pins with quenchEn := false }, seq := .updateClamped }

theorem updateFrom_of_lt (h : mv < s.cfg.vbiasMinMv) : s.updateFrom mv = s.clampQuench := if_pos h

theorem updateFrom_of_le (h : s.cfg.vbiasMinMv ≤ mv) : s.updateFrom mv = s.updateTo mv 0 := if_neg (BitVec.not_lt.2 h)

theorem updateTo_goto (s : State) (q : Seq) (mv : U16) (f : U8) : (s.goto q).updateTo mv f = s.updateTo mv f := by
  by_cases h : mv = s.requestedVoltageMv
  · rw [updateTo_of_eq h, updateTo_of_eq (s := s.goto q) h]
    rfl
  · rw [updateTo_of_ne h, updateTo_of_ne (s := s.goto q) h, adcConfigure_eq, adcConfigure_eq]
    rfl

/-- An Update takes no notice of where the sequencer has stood, so that it is one command whether it is accepted or goes
on from `VBIAS.ENABLE` (R172). -/
theorem updateFrom_goto (s : State) (q : Seq) (mv : U16) : (s.goto q).updateFrom mv = s.updateFrom mv := by
  by_cases h : mv < s.cfg.vbiasMinMv
  · rw [updateFrom_of_lt h, updateFrom_of_lt (s := s.goto q) h]
    rfl
  · have hle : s.cfg.vbiasMinMv ≤ mv := BitVec.not_lt.1 h
    rw [updateFrom_of_le hle, updateFrom_of_le (s := s.goto q) hle, updateTo_goto]

theorem vbiasUpdateFirst_of_off (h : s.sourceMode = .off) (mv : U16) : s.vbiasUpdateFirst mv = s.refuse := if_pos h

theorem vbiasUpdateFirst_of_on (h : s.sourceMode ≠ .off) (mv : U16) : s.vbiasUpdateFirst mv = s.updateFrom mv :=
  if_neg h

theorem vbiasEnableFirst_of_on (h : s.sourceMode ≠ .off) (mv : U16) : s.vbiasEnableFirst mv = s.refuse := if_neg h

/-- The reset phase of R172, the DAC write included. -/
def enableReset (s : State) (mv : U16) : State :=
  { s with
    requestedVoltageMv := s.cfg.vbiasMinMv
    lastMeasuredVoltageMv := s.cfg.vbiasMinMv
    dacCode := s.cfg.dacMax
    pins := { s.pins with dacCode := s.cfg.dacMax, dacEn := true }
    seq := .enableLdo mv }

theorem vbiasEnableFirst_of_off (h : s.sourceMode = .off) (mv : U16) : s.vbiasEnableFirst mv = s.enableReset mv :=
  if_pos h

theorem turn_of_enableLdo (h : s.seq = .enableLdo mv) : s.turn = s.enableLdo mv := by simp only [turn, h]

theorem turn_of_enableUpdate (h : s.seq = .enableUpdate mv) : s.turn = s.updateFrom mv := by simp only [turn, h]

theorem turns_one_of_updateClamped (h : s.seq = .updateClamped) :
    s.turns 1 = s.updateTo s.cfg.vbiasMinMv Flag.clamped := by
  simp only [turns_succ, turns_zero, turn, h, updateClamped]

/-- `VBIAS.ENABLE` after its acceptance: the LDO, and the soft start (R172). -/
theorem turns_three_of_enableLdo (h : s.seq = .enableLdo mv) :
    s.turns 3 = ((s.enableLdo mv).delay s.cfg.tSoftstart).goto (.enableUpdate mv) := by
  rw [turns_succ, turn_of_enableLdo h]
  exact turns_two_of_delay (d := .softstart mv) rfl

end State

/-- An idle block accepts `VBIAS.UPDATE` (R96). -/
theorem exec_vbiasUpdate_of_idle {s : State} (h : s.Idle) (mv : U16) :
    exec (.vbiasUpdate mv) s = .next (s.busy.vbiasUpdateFirst mv) :=
  congrArg Host.Outcome.next (State.accept_eq_busy h _)

/-- An idle block accepts `VBIAS.ENABLE` (R96). -/
theorem exec_vbiasEnable_of_idle {s : State} (h : s.Idle) (mv : U16) :
    exec (.vbiasEnable mv) s = .next (s.busy.vbiasEnableFirst mv) :=
  congrArg Host.Outcome.next (State.accept_eq_busy h _)

theorem exec_vbiasUpdate_of_on {s : State} (h : s.Idle) (hon : s.sourceMode ≠ .off) (mv : U16) :
    exec (.vbiasUpdate mv) s = .next (s.busy.updateFrom mv) :=
  (exec_vbiasUpdate_of_idle h mv).trans (congrArg _ (State.vbiasUpdateFirst_of_on (s := s.busy) hon mv))

/-- R173. -/
theorem exec_vbiasUpdate_of_off {s : State} (h : s.Idle) (hoff : s.sourceMode = .off) (mv : U16) :
    exec (.vbiasUpdate mv) s = .next { s with strobes := .response Flag.illegal 0 :: s.strobes } := by
  rw [exec_vbiasUpdate_of_idle h, State.vbiasUpdateFirst_of_off (s := s.busy) hoff, State.refuse_busy h]

theorem exec_vbiasEnable_of_off {s : State} (h : s.Idle) (hoff : s.sourceMode = .off) (mv : U16) :
    exec (.vbiasEnable mv) s = .next (s.busy.enableReset mv) :=
  (exec_vbiasEnable_of_idle h mv).trans (congrArg _ (State.vbiasEnableFirst_of_off (s := s.busy) hoff mv))

/-- R171. -/
theorem exec_vbiasEnable_of_on {s : State} (h : s.Idle) (hon : s.sourceMode ≠ .off) (mv : U16) :
    exec (.vbiasEnable mv) s = .next { s with strobes := .response Flag.illegal 0 :: s.strobes } := by
  rw [exec_vbiasEnable_of_idle h, State.vbiasEnableFirst_of_on (s := s.busy) hon, State.refuse_busy h]

/-- Settles O36: the precondition is tested before anything is written. -/
theorem servoPreconditionsRefuse : Obligations.ServoPreconditionsRefuse :=
  fun _ mv hidle => ⟨fun hon => exec_vbiasEnable_of_on hidle hon mv, fun hoff => exec_vbiasUpdate_of_off hidle hoff mv⟩

/-- Settles O37: the target is not clamped, and the no-op test finds it set. -/
theorem vbiasUpdateRepeatIsANoop : Obligations.VbiasUpdateRepeatIsANoop := by
  intro s hidle hon hmin
  rw [exec_vbiasUpdate_of_on hidle hon, State.updateFrom_of_le (s := s.busy) hmin,
    State.updateTo_of_eq (s := s.busy) (mv := s.requestedVoltageMv) rfl]
  exact congrArg _ (State.respond_restores_idle hidle s.busy _ _)

/-- Settles O38: the clamp writes the pin, and the next transition is the Update of the minimum. -/
theorem vbiasUpdateClampsToTheMinimum : Obligations.VbiasUpdateClampsToTheMinimum := by
  intro s mv hidle hon hlt
  have hexec := exec_vbiasUpdate_of_on hidle hon mv
  rw [State.updateFrom_of_lt (s := s.busy) hlt] at hexec
  have hclamped : s.busy.clampQuench.turns 1 = s.busy.clampQuench.updateTo s.cfg.vbiasMinMv Flag.clamped :=
    State.turns_one_of_updateClamped rfl
  refine ⟨s.busy.clampQuench, hexec, rfl, fun heq => ?_, fun hne => ?_⟩
  · rw [hclamped, State.updateTo_of_eq (s := s.busy.clampQuench) heq.symm]
    exact State.respond_restores_idle hidle s.busy.clampQuench _ _
  · rw [hclamped, State.updateTo_of_ne (s := s.busy.clampQuench) (Ne.symm hne), State.adcConfigure_eq]
    rfl

/-- Settles O39: the target is neither clamped nor the one recorded. -/
theorem vbiasUpdateStartsASearch : Obligations.VbiasUpdateStartsASearch := by
  intro s mv hidle hon hmin hne
  refine ⟨rfl, ?_⟩
  rw [exec_vbiasUpdate_of_on hidle hon, State.updateFrom_of_le (s := s.busy) hmin,
    State.updateTo_of_ne (s := s.busy) hne, State.adcConfigure_eq]
  rfl

/-- Settles O35: the fourth transition is the Update's, which takes no notice of the position before it. -/
theorem vbiasEnableResetsThenUpdates : Obligations.VbiasEnableResetsThenUpdates := by
  intro s mv hidle hoff
  have hldo := State.turns_three_of_enableLdo (s := s.busy.enableReset mv) rfl
  refine ⟨rfl, s.busy.enableReset mv, exec_vbiasEnable_of_off hidle hoff mv, rfl, hldo, ?_⟩
  rw [State.turns_add _ 3 1, hldo]
  refine (exec_vbiasUpdate_of_on ⟨rfl, rfl⟩ ?_ mv).trans (congrArg Host.Outcome.next ?_)
  · nofun
  · exact State.updateFrom_goto ((s.busy.enableReset mv).turns 3) .idle mv

/-! ## The searches -/

namespace State

variable {s : State} {l : Search} {m : U16}

/-- R178's tests of a sample. -/
theorem decAnswered_eq (s : State) (l : Search) (m : U16) :
    s.decAnswered l m = s.goto (if m.toNat ≤ l.t.toNat then .searchDone ⟨l.t, m, l.fine, false, l.flags⟩
      else .decLoop ⟨l.t, m, decide (m.toNat - l.t.toNat ≤ s.cfg.proximityBandMv.toNat), l.sat, l.flags⟩) :=
  congrArg s.goto (if_congr decide_eq_true_iff rfl rfl)

/-- R181's tests of a sample, with the mathematical sum of R182. -/
theorem incAnswered_eq (s : State) (l : Search) (m : U16) :
    s.incAnswered l m = s.goto (if l.t.toNat ≤ m.toNat + s.cfg.overshootAllowanceMv.toNat
      then .searchDone ⟨l.t, m, l.fine, false, l.flags⟩
      else .incLoop ⟨l.t, m, decide (l.t.toNat - m.toNat ≤ s.cfg.proximityBandMv.toNat), l.sat, l.flags⟩) :=
  congrArg s.goto (if_congr decide_eq_true_iff rfl rfl)

theorem decLoop_of_lt (h : s.dacCode < s.cfg.dacMax) (l : Search) :
    s.decLoop l = (s.setDacCode (s.dacCode + 1)).goto (.delay (.decStep l)) :=
  if_pos h

/-- R178 (a). -/
theorem decLoop_of_le (h : s.cfg.dacMax ≤ s.dacCode) (l : Search) : s.decLoop l = s.recordSearch l :=
  if_neg (BitVec.not_lt.2 h)

theorem incLoop_of_pos (h : 0 < s.dacCode) (l : Search) :
    s.incLoop l = (s.setDacCode (s.dacCode - 1)).goto (.delay (.incStep l)) :=
  if_pos h

/-- R181's bound. -/
theorem incLoop_of_eq_zero (h : s.dacCode = 0) (l : Search) : s.incLoop l = s.recordSearch l :=
  if_neg (h ▸ BitVec.lt_irrefl 0)

theorem turn_of_decLoop (h : s.seq = .decLoop l) : s.turn = s.decLoop l := by simp only [turn, h]

theorem turn_of_incLoop (h : s.seq = .incLoop l) : s.turn = s.incLoop l := by simp only [turn, h]

theorem turn_of_decEntry (h : s.seq = .decEntry l) : s.turn = s.decEntry l := by simp only [turn, h]

theorem turn_of_incEntry (h : s.seq = .incEntry l) : s.turn = s.incEntry l := by simp only [turn, h]

theorem turn_of_searchDone (h : s.seq = .searchDone l) : s.turn = s.recordSearch l := by simp only [turn, h]

/-- A step of the decreasing search with its delay (R178, R179). -/
theorem turns_three_of_decLoop (h : s.seq = .decLoop l) (hlt : s.dacCode < s.cfg.dacMax) :
    s.turns 3 = ((s.setDacCode (s.dacCode + 1)).delay s.cfg.tDacStep).goto (.sample (.decSearch l)) := by
  rw [turns_succ, turn_of_decLoop h, decLoop_of_lt hlt]
  exact turns_two_of_delay (d := .decStep l) rfl

/-- A step of the increasing search with its delays, the second one being there when `fine` is set (R179, R181). -/
theorem turns_of_incLoop (h : s.seq = .incLoop l) (hpos : 0 < s.dacCode) :
    s.turns (if l.fine then 5 else 3) = { s.setDacCode (s.dacCode - 1) with
      strobes := if l.fine then delayRequest s.cfg.tFineSettle :: delayRequest s.cfg.tDacStep :: s.strobes
        else delayRequest s.cfg.tDacStep :: s.strobes
      seq := .sample (.incSearch l) } := by
  have hstep : s.turns 3 =
      ((s.setDacCode (s.dacCode - 1)).delay s.cfg.tDacStep).goto (DelayPoint.incStep l).after := by
    rw [turns_succ, turn_of_incLoop h, incLoop_of_pos hpos]
    exact turns_two_of_delay (d := .incStep l) rfl
  by_cases hfine : l.fine = true
  · rw [DelayPoint.after, if_pos hfine] at hstep
    rw [if_pos hfine, if_pos hfine, s.turns_add 3 2, hstep]
    exact turns_two_of_delay (d := .fineSettle l) rfl
  · rw [DelayPoint.after, if_neg hfine] at hstep
    rw [if_neg hfine, if_neg hfine]
    exact hstep

/-- The sample of the decreasing search and its tests (R178). -/
theorem turns_two_of_decSample (h : s.seq = .sample (.decSearch l)) (hm : m = s.cfg.mvOf s.oracle.answer) :
    s.turns 2 = { s with
      oracle := s.oracle.advance
      strobes := .adcStabilized (if l.fine then s.cfg.decFine else s.cfg.decCoarse) :: s.strobes
      seq := if m.toNat ≤ l.t.toNat then .searchDone ⟨l.t, m, l.fine, false, l.flags⟩
        else .decLoop ⟨l.t, m, decide (m.toNat - l.t.toNat ≤ s.cfg.proximityBandMv.toNat), l.sat, l.flags⟩ } := by
  subst hm
  exact (turns_two_of_sample h).trans (decAnswered_eq _ l _)

/-- The sample of the increasing search and its tests (R181, R182). -/
theorem turns_two_of_incSample (h : s.seq = .sample (.incSearch l)) (hm : m = s.cfg.mvOf s.oracle.answer) :
    s.turns 2 = { s with
      oracle := s.oracle.advance
      strobes := (if l.fine then .adcAverage s.cfg.vbiasCh s.cfg.incFineAvgShift else .adcStabilized s.cfg.incCoarse)
        :: s.strobes
      seq := if l.t.toNat ≤ m.toNat + s.cfg.overshootAllowanceMv.toNat
        then .searchDone ⟨l.t, m, l.fine, false, l.flags⟩
        else .incLoop ⟨l.t, m, decide (l.t.toNat - m.toNat ≤ s.cfg.proximityBandMv.toNat), l.sat, l.flags⟩ } := by
  subst hm
  exact (turns_two_of_sample h).trans (incAnswered_eq _ l _)

end State

/-- Settles O40: the switch is the entry's first transition and the delay the two after it; without one the entry is the
head of the loop. -/
theorem sourceSwitchesAtTheActivationThreshold : Obligations.SourceSwitchesAtTheActivationThreshold := by
  refine fun s l => ⟨fun hseq hreq ht => ?_, fun hseq hreq ht => ?_, fun hseq hno => ?_, fun hseq hno => ?_⟩
  · have hentry : s.turn = { s with
        pins := { s.pins with stepupEn := false }, sourceMode := .ldoRegulated, seq := .delay (.stepupOff l) } :=
      (State.turn_of_decEntry hseq).trans (if_pos ⟨hreq, ht⟩)
    rw [State.turns_succ, hentry, State.turns_two_of_delay rfl]
    rfl
  · have hentry : s.turn = { s with
        pins := { s.pins with stepupEn := true }, sourceMode := .stepUpConverter, seq := .delay (.stepupOn l) } :=
      (State.turn_of_incEntry hseq).trans (if_pos ⟨hreq, ht⟩)
    rw [State.turns_succ, hentry, State.turns_two_of_delay rfl]
    rfl
  · exact (State.turn_of_decEntry hseq).trans (if_neg hno)
  · exact (State.turn_of_incEntry hseq).trans (if_neg hno)

/-- Settles O41: the step with its delay, then the sample. -/
theorem decreasingSearchIteration : Obligations.DecreasingSearchIteration := by
  intro s l m hseq hlt hm
  rw [s.turns_add 3 2, State.turns_three_of_decLoop hseq hlt]
  exact State.turns_two_of_decSample rfl hm

/-- Settles O42: the step with one delay or two, then the sample. -/
theorem increasingSearchIteration : Obligations.IncreasingSearchIteration := by
  intro s l m hseq hpos hm
  have hcount : (if l.fine then 7 else 5) = (if l.fine then 5 else 3) + 2 := by cases l.fine <;> rfl
  rw [hcount, s.turns_add, State.turns_of_incLoop hseq hpos]
  refine (State.turns_two_of_incSample (l := l) (m := m) rfl ?_).trans ?_
  · exact hm
  · cases l.fine <;> rfl

/-- Settles O43: each of the three is followed by the record. -/
theorem searchEndRecordsAndResponds : Obligations.SearchEndRecordsAndResponds := by
  intro s l h
  have hturn : s.turn = s.recordSearch l := by
    rcases h with hseq | ⟨hseq, hbound⟩ | ⟨hseq, hzero⟩
    · exact State.turn_of_searchDone hseq
    · exact (State.turn_of_decLoop hseq).trans (State.decLoop_of_le hbound l)
    · exact (State.turn_of_incLoop hseq).trans (State.incLoop_of_eq_zero hzero l)
  exact hturn

end Sys2Proof.Machine
end

section
/-! Proofs about `VBIAS.DISABLE` (43_bias_servo.md): the wait for a sample under the threshold, which ends when one
comes (R185, R186) and not before (R187). -/

namespace Sys2Proof.Machine

open Sys2Proof

/-- The last of `n + 1` answers. -/
theorem Oracle.after_succ (n : Nat) (o : Oracle) : Oracle.after (n + 1) o = (o.after n).advance := by
  induction n generalizing o with
  | zero => rfl
  | succ n ih => exact ih o.advance

namespace State

variable {s : State} {m : U16}

/-! ## One sample of the wait -/

theorem quenchAnswered_of_lt (h : m < s.cfg.quenchThresholdMv) : s.quenchAnswered m = s.goto (.disQuenchOff m) :=
  congrArg s.goto (if_pos (decide_eq_true h))

theorem quenchAnswered_of_le (h : s.cfg.quenchThresholdMv ≤ m) : s.quenchAnswered m = s.goto (.sample .quench) :=
  congrArg s.goto (if_neg (decide_eq_true_iff.not.2 (BitVec.not_lt.2 h)))

/-- `s` after `n` samples of the wait. -/
def afterWaits (n : Nat) (s : State) : State :=
  { s with
    oracle := s.oracle.after n
    strobes := List.replicate n (.adcAverage s.cfg.vbiasCh s.cfg.quenchAvgShift) ++ s.strobes }

theorem afterWaits_succ (n : Nat) (s : State) : s.afterWaits (n + 1) = (s.afterWaits 1).afterWaits n := by
  simp only [afterWaits, List.replicate_succ', List.append_assoc]
  rfl

theorem turns_two_of_quench_of_le (h : s.seq = .sample .quench)
    (hm : s.cfg.quenchThresholdMv ≤ s.cfg.mvOf s.oracle.answer) : s.turns 2 = s.afterWaits 1 := by
  have hwait : s.turns 2 = (s.afterWaits 1).goto (.sample .quench) :=
    (turns_two_of_sample h).trans (quenchAnswered_of_le (s := s.afterWaits 1) hm)
  rw [hwait, ← h]
  rfl

theorem turns_two_of_quench_of_lt (h : s.seq = .sample .quench)
    (hm : s.cfg.mvOf s.oracle.answer < s.cfg.quenchThresholdMv) :
    s.turns 2 = (s.afterWaits 1).goto (.disQuenchOff (s.cfg.mvOf s.oracle.answer)) :=
  (turns_two_of_sample h).trans (quenchAnswered_of_lt (s := s.afterWaits 1) hm)

/-- The wait goes on as long as no answer is under the threshold (R187). -/
theorem turns_of_quench (h : s.seq = .sample .quench) {n : Nat}
    (hm : ∀ k : Nat, k < n → s.cfg.quenchThresholdMv ≤ s.cfg.mvOf (s.oracle.after k).answer) :
    s.turns (2 * n) = s.afterWaits n := by
  induction n generalizing s with
  | zero => rfl
  | succ n ih =>
    rw [Nat.mul_succ, Nat.add_comm, turns_add, turns_two_of_quench_of_le h (hm 0 n.succ_pos), s.afterWaits_succ n]
    exact ih (s := s.afterWaits 1) h fun k hk => hm (k + 1) (Nat.succ_lt_succ hk)

/-- The wait as a whole, from its first sample to the one that ends it (R185). -/
theorem turns_of_quench_ends (h : s.seq = .sample .quench) {n : Nat}
    (hwaits : ∀ k : Nat, k < n → s.cfg.quenchThresholdMv ≤ s.cfg.mvOf (s.oracle.after k).answer)
    (hm : m = s.cfg.mvOf (s.oracle.after n).answer) (hlt : m < s.cfg.quenchThresholdMv) :
    s.turns (2 * n + 2) = (s.afterWaits (n + 1)).goto (.disQuenchOff m) := by
  subst hm
  rw [turns_add, turns_of_quench h hwaits]
  refine (turns_two_of_quench_of_lt (s := s.afterWaits n) h hlt).trans ?_
  simp only [afterWaits, Oracle.after_succ]
  rfl

/-- `s` with the supplies off, the quench path on and the ADC pointed at the bias channel; the first sample of the wait
comes next (R185). -/
def quenching (s : State) : State :=
  { s with
    pins := { s.pins with stepupEn := false, ldoEn := false, dacEn := false, quenchEn := true }
    sourceMode := .off
    adcCfg := ⟨s.cfg.vbiasCh, s.cfg.vbiasGain⟩
    strobes := if s.adcCfg = ⟨s.cfg.vbiasCh, s.cfg.vbiasGain⟩ then s.strobes
      else .adcConfigure s.cfg.vbiasCh s.cfg.vbiasGain true :: s.strobes
    seq := .sample .quench }

/-- `VBIAS.DISABLE` after its first micro-step: the quench path, and the ADC (R185). -/
theorem turns_two_vbiasDisableFirst (s : State) : s.vbiasDisableFirst.turns 2 = s.quenching := by
  have hconfigure : s.vbiasDisableFirst.turns 2 =
      (s.vbiasDisableFirst.disQuench.adcConfigure s.cfg.vbiasCh s.cfg.vbiasGain).goto (.sample .quench) := rfl
  rw [hconfigure, adcConfigure_eq]
  rfl

/-- The end of `VBIAS.DISABLE`: the quench path off, the record and the response (R185). -/
theorem turns_two_of_disQuenchOff (h : s.seq = .disQuenchOff m) : s.turns 2 = (s.disQuenchOff m).disRecord m := by
  have hturn : s.turn = s.disQuenchOff m := by simp only [turn, h]
  rw [turns_succ, hturn]
  rfl

end State

/-- Settles O45: two transitions to the wait, the wait, and two transitions after it. -/
theorem vbiasDisableQuenchesAndEnds : Obligations.VbiasDisableQuenchesAndEnds := by
  intro s n m hidle hwaits hm hlt
  refine ⟨rfl, s.busy.vbiasDisableFirst, congrArg Host.Outcome.next (State.accept_eq_busy hidle _), rfl, ?_⟩
  have hwait := State.turns_of_quench_ends (s := s.busy.quenching) rfl hwaits hm hlt
  have hcount : 2 * n + 6 = 2 + (2 * n + 2) + 2 := by omega
  rw [hcount, State.turns_add, State.turns_add, State.turns_two_vbiasDisableFirst, hwait]
  rw [State.turns_two_of_disQuenchOff (State.goto_seq _ _), State.disRecord, State.respond_restores_idle hidle]
  simp only [State.disQuenchOff, State.goto, State.afterWaits, State.quenching, State.busy]
  rfl

/-! ## A wait without an end -/

/-- No answer of the oracle is under the threshold. -/
def Oracle.NeverQuenched (c : Cfg) (o : Oracle) : Prop := ∀ j : Nat, c.quenchThresholdMv ≤ c.mvOf (o.after j).answer

namespace State

variable {s : State}

/-- `VBIAS.DISABLE` waits, and nothing that its environment holds can end the wait (R187). -/
structure WaitsForEver (s : State) : Prop where
  cfgWf : s.cfg.wf = true
  busy : s.fgBusy = true
  waits : s.seq = .sample .quench ∨ s.seq = .answer .quench
  quenchOn : s.pins.quenchEn = true
  oracle : s.oracle.NeverQuenched s.cfg
  inputs : ∀ x ∈ s.schedule, x.LeavesWaiting s.cfg

/-- `t` waits as `s` does, and no response lies between them. -/
def StillWaits (s t : State) : Prop := t.WaitsForEver ∧ t.responseCount = s.responseCount

/-- An input is taken off the schedule. -/
theorem WaitsForEver.withSchedule (h : s.WaitsForEver) {x : Input} {rest : List Input} (hs : s.schedule = x :: rest) :
    s.StillWaits { s with schedule := rest } ∧ x.LeavesWaiting s.cfg := by
  obtain ⟨hwf, hbusy, hwaits, hquench, horacle, hinputs⟩ := h
  rw [hs, List.forall_mem_cons] at hinputs
  obtain ⟨hx, hrest⟩ := hinputs
  exact ⟨⟨⟨hwf, hbusy, hwaits, hquench, horacle, hrest⟩, rfl⟩, hx⟩

/-- The port's answers that R187 leaves. -/
theorem WaitsForEver.adcRsp (h : s.WaitsForEver) {code : U16} (hcode : s.cfg.quenchThresholdMv ≤ s.cfg.mvOf code) :
    s.StillWaits (s.adcRsp code) := by
  obtain ⟨hwf, hbusy, hseq | hseq, hquench, horacle, hinputs⟩ := h
  · rw [s.adcRsp_of_no_request code fun k hk => Seq.noConfusion (hseq.symm.trans hk)]
    exact ⟨⟨hwf, hbusy, .inl hseq, hquench, horacle, hinputs⟩, rfl⟩
  · rw [s.adcRsp_of_answer .quench code hseq, answered, quenchAnswered_of_le hcode]
    exact ⟨⟨hwf, hbusy, .inl rfl, hquench, horacle, hinputs⟩, rfl⟩

theorem WaitsForEver.dlyDone (h : s.WaitsForEver) : s.dlyDone = s := by
  refine s.dlyDone_of_no_request fun d hd => ?_
  rcases h.waits with hseq | hseq <;> exact Seq.noConfusion (hseq.symm.trans hd)

theorem WaitsForEver.turn (h : s.WaitsForEver) : s.StillWaits s.turn := by
  obtain ⟨hwf, hbusy, hseq | hseq, hquench, horacle, hinputs⟩ := h
  · rw [turn_of_sample hseq]
    have hcount := congrArg Prod.snd (s.strobe_responseView (SamplePoint.isResponse_request s.cfg .quench))
    exact ⟨⟨hwf, hbusy, .inr rfl, hquench, horacle, hinputs⟩, hcount⟩
  · have hadvanced : { s with oracle := s.oracle.advance }.WaitsForEver :=
      ⟨hwf, hbusy, .inr hseq, hquench, fun j => horacle (j + 1), hinputs⟩
    have hturn : s.turn = { s with oracle := s.oracle.advance }.adcRsp s.oracle.answer :=
      (turn_of_answer hseq).trans (adcRsp_of_answer { s with oracle := s.oracle.advance } .quench _ hseq).symm
    rw [hturn]
    exact hadvanced.adcRsp (horacle 0)

/-- An event touches nothing of the wait (R48). -/
theorem WaitsForEver.event (h : s.WaitsForEver) {i : Instr} (hi : i.isEvent = true) :
    ∃ t : State, exec i s = .next t ∧ s.StillWaits t := by
  obtain ⟨hwf, hbusy, hwaits, hquench, horacle, hinputs⟩ := h
  obtain ⟨t, ht, -, hservo, -, hfore⟩ := eventsChangeOnlyTheAccumulator s i hi
  refine ⟨t, ht, ⟨?_, ?_, ?_, ?_, ?_, ?_⟩, congrArg (List.countP _) hfore.strobes⟩
  · rwa [hfore.cfg]
  · rwa [hfore.fgBusy]
  · rwa [hfore.seq]
  · rwa [hservo.quenchEn]
  · rwa [hfore.oracle, hfore.cfg]
  · rwa [hfore.schedule, hfore.cfg]

/-- A word of the program is an event that the decoder reads, or one that the busy port ignores (R95, R97). -/
theorem WaitsForEver.deliver (h : s.WaitsForEver) {w : OpWord}
    (hw : isEventOpcode (opField w) = true → ∃ i : Instr, decode s.cfg w = .instr i) :
    ∃ t : State, deliver w s = .next t ∧ s.StillWaits t := by
  cases hevent : isEventOpcode (opField w) with
  | true =>
    obtain ⟨i, hi⟩ := hw hevent
    rw [deliver_of_decode s w i hi]
    exact h.event ((isEvent_eq_of_decode hi).trans hevent)
  | false =>
    rw [deliver_eq_commandPort s hevent, commandPort_of_busy w h.busy]
    exact ⟨s, rfl, h, rfl⟩

/-- Whatever the schedule holds, a step leaves the wait as it is. -/
theorem WaitsForEver.step (h : s.WaitsForEver) : ∃ t : State, step s = .next t ∧ s.StillWaits t := by
  have hstep := step_of_wf s h.cfgWf
  cases hs : s.schedule with
  | nil => exact ⟨_, hstep.trans (transition_of_nil hs), h.turn⟩
  | cons x rest =>
    obtain ⟨⟨hrest, -⟩, hnotRst, hcode, hword⟩ := h.withSchedule hs
    cases x with
    | trace w =>
      rw [step_of_trace h.cfgWf hs]
      exact hrest.deliver (hword w rfl)
    | command w =>
      rw [step_of_command h.cfgWf hs, commandPort_of_busy w hrest.busy]
      exact ⟨_, rfl, hrest, rfl⟩
    | adcRsp code =>
      exact ⟨_, hstep.trans (transition_of_progress (p := .adcRsp code) hs), hrest.adcRsp (hcode code rfl)⟩
    | dlyDone =>
      have hdone := hstep.trans (transition_of_progress (p := .dlyDone) hs)
      rw [Progress.run_dlyDone, hrest.dlyDone] at hdone
      exact ⟨_, hdone, hrest, rfl⟩
    | turn => exact ⟨_, hstep.trans (transition_of_progress (p := .turn) hs), hrest.turn⟩
    | await => exact ⟨_, hstep.trans ((transition_of_await hs).trans (if_pos h.busy)), h.turn⟩
    | rst => exact absurd rfl hnotRst

theorem WaitsForEver.run (h : s.WaitsForEver) (k : Nat) :
    ∃ t : State, Host.Core.run core k s = .next t ∧ s.StillWaits t := by
  induction k generalizing s with
  | zero => exact ⟨s, rfl, h, rfl⟩
  | succ k ih =>
    obtain ⟨u, hstep, hu, hcount⟩ := h.step
    obtain ⟨t, hrun, ht, hcount'⟩ := ih hu
    exact ⟨t, (run_succ_of_step hstep k).trans hrun, ht, hcount'.trans hcount⟩

end State

/-- Settles O46: every step keeps the wait. -/
theorem vbiasDisableCanWaitForEver : Obligations.VbiasDisableCanWaitForEver := by
  intro s k hwf hbusy hwaits hquench horacle hinputs
  obtain ⟨t, hrun, ht, hcount⟩ := State.WaitsForEver.run ⟨hwf, hbusy, hwaits, hquench, horacle, hinputs⟩ k
  exact ⟨t, hrun, ht.busy, ht.waits, ht.quenchOn, hcount⟩

end Sys2Proof.Machine
end

section
/-! Proofs about the end of `VBIAS.UPDATE` and `VBIAS.ENABLE` (43_bias_servo.md R184): every iteration of a search takes
one of the DAC's codes, so that a search ends at the DAC's bound if not before. -/

namespace Sys2Proof.Machine

open Sys2Proof

namespace State

variable {s t u : State} {l : Search} {target mv : U16} {d i j k n : Nat}

/-! ## What a command keeps on its way, and how it ends -/

/-- From `s` to `t` the configuration is the same, nothing is answered, and at most `k` samples are requested. -/
structure Silent (k : Nat) (s t : State) : Prop where
  cfg : t.cfg = s.cfg
  responses : t.responseCount = s.responseCount
  samples : t.sampleCount ≤ s.sampleCount + k

/-- What is on the ports since `s` decides. -/
theorem silent_of_strobes (hcfg : t.cfg = s.cfg) {new : List Strobe} (hstrobes : t.strobes = new ++ s.strobes)
    (hresp : new.countP Strobe.isResponse = 0) (hsamp : new.countP Strobe.isSample ≤ k) : Silent k s t := by
  refine ⟨hcfg, ?_, ?_⟩
  · rw [responseCount, hstrobes, List.countP_append, hresp, Nat.zero_add]
    rfl
  · rw [sampleCount, hstrobes, List.countP_append, Nat.add_comm]
    exact Nat.add_le_add_left hsamp _

/-- From `s` to `u` a command ends at `target`: one response, with the last measurement, at most `k` samples, the target
recorded and the source that R40 gives for it (R183, R184). -/
structure Ends (target : U16) (k : Nat) (s u : State) : Prop where
  idle : u.Idle
  responses : u.responseCount = s.responseCount + 1
  samples : u.sampleCount ≤ s.sampleCount + k
  requested : u.requestedVoltageMv = target
  source : u.sourceMode = s.cfg.sourceFor target
  value : ∃ f : U8, u.strobes.head? = some (.response f (u.lastMeasuredVoltageMv.setWidth 32))

/-- The command that was accepted in `s` and stands at `t` ends within `n` transitions. -/
def EndsWithin (n k : Nat) (target : U16) (s t : State) : Prop := ∃ i : Nat, i ≤ n ∧ Ends target k s (t.turns i)

theorem EndsWithin.mono (h : EndsWithin n k target s t) (hn : n ≤ i) (hk : k ≤ j) : EndsWithin i j target s t := by
  obtain ⟨m, hm, hends⟩ := h
  exact ⟨m, hm.trans hn, { hends with samples := hends.samples.trans (Nat.add_le_add_left hk _) }⟩

theorem EndsWithin.of_turns (h : EndsWithin n k target s (t.turns i)) : EndsWithin (i + n) k target s t := by
  obtain ⟨m, hm, hends⟩ := h
  exact ⟨i + m, Nat.add_le_add_left hm i, t.turns_add i m ▸ hends⟩

/-- The command may have been accepted earlier, if nothing but samples lies between. -/
theorem EndsWithin.of_silent (h : EndsWithin n k target t u) (hsilent : Silent j s t) :
    EndsWithin n (j + k) target s u := by
  obtain ⟨m, hm, hidle, hresp, hsamp, hreq, hsource, hvalue⟩ := h
  refine ⟨m, hm, hidle, ?_, ?_, hreq, hsilent.cfg ▸ hsource, hvalue⟩
  · rw [hresp, hsilent.responses]
  · have hle := hsilent.samples
    omega

theorem EndsWithin.of_silent_zero (h : EndsWithin n k target t u) (hsilent : Silent 0 s t) :
    EndsWithin n k target s u :=
  (h.of_silent hsilent).mono le_rfl (Nat.zero_add k).le

/-- Two positions with the same next transition end alike, but for a command that is over. -/
theorem EndsWithin.of_turn_eq {q : Seq} (hq : q ≠ .idle) (hturn : t.turn = (t.goto q).turn)
    (h : EndsWithin n k target s (t.goto q)) : EndsWithin n k target s t := by
  obtain ⟨m, hm, hends⟩ := h
  cases m with
  | zero => exact absurd hends.idle.seqIdle hq
  | succ m =>
    rw [turns_succ, ← hturn] at hends
    exact ⟨m + 1, hm, hends⟩

/-! ## The searches -/

/-- R183: the record ends the command. -/
theorem endsWithin_of_searchEnd (h : s.seq = .searchDone l ∨ (s.seq = .decLoop l ∧ s.cfg.dacMax ≤ s.dacCode) ∨
    (s.seq = .incLoop l ∧ s.dacCode = 0)) (hsource : s.sourceMode = s.cfg.sourceFor l.t) :
    EndsWithin 1 0 l.t s s := by
  have hturn := searchEndRecordsAndResponds s l h
  refine ⟨1, le_rfl, ?_⟩
  rw [turns_succ, turns_zero, hturn]
  exact ⟨⟨rfl, rfl⟩, List.countP_cons_of_pos rfl, (List.countP_cons_of_neg Bool.false_ne_true).le, rfl, hsource, _, rfl⟩

/-- A search stands at the head of its loop, with `d` codes of the DAC left to take. -/
def AtLoop (l : Search) (d : Nat) (s : State) : Prop :=
  (s.seq = .decLoop l ∧ d = s.cfg.dacMax.toNat - s.dacCode.toNat) ∨ (s.seq = .incLoop l ∧ d = s.dacCode.toNat)

/-- The search is over, or goes on for the same target with `d` codes left. -/
def Iterated (l : Search) (d : Nat) (s : State) : Prop :=
  ∃ l' : Search, (s.seq = .searchDone l' ∨ s.AtLoop l' d) ∧ l'.t = l.t

/-- One iteration takes one code and at most one sample (R178, R181). -/
theorem AtLoop.iterate (h : s.AtLoop l (d + 1)) :
    ∃ i : Nat, i ≤ 7 ∧ (s.turns i).Iterated l d ∧ Silent 1 s (s.turns i) ∧ (s.turns i).sourceMode = s.sourceMode := by
  rcases h with ⟨hseq, hd⟩ | ⟨hseq, hd⟩
  · have hlt : s.dacCode < s.cfg.dacMax := BitVec.lt_def.2 (by omega)
    have hleft : d = s.cfg.dacMax.toNat - (s.dacCode + 1).toNat := by bv_omega
    refine ⟨5, by omega, ?_⟩
    rw [decreasingSearchIteration s l _ hseq hlt rfl]
    refine ⟨?_, silent_of_strobes rfl (new := [_, _]) rfl rfl le_rfl, rfl⟩
    by_cases haccepts : (s.cfg.mvOf s.oracle.answer).toNat ≤ l.t.toNat
    · exact ⟨_, .inl (if_pos haccepts), rfl⟩
    · exact ⟨_, .inr (.inl ⟨if_neg haccepts, hleft⟩), rfl⟩
  · have hpos : 0 < s.dacCode := BitVec.lt_def.2 (hd ▸ d.succ_pos)
    have hleft : d = (s.dacCode - 1).toNat := by bv_omega
    refine ⟨if l.fine then 7 else 5, by split <;> omega, ?_⟩
    rw [increasingSearchIteration s l _ hseq hpos rfl]
    refine ⟨?_, ?_, rfl⟩
    · by_cases haccepts :
          l.t.toNat ≤ (s.cfg.mvOf s.oracle.answer).toNat + s.cfg.overshootAllowanceMv.toNat
      · exact ⟨_, .inl (if_pos haccepts), rfl⟩
      · exact ⟨_, .inr (.inr ⟨if_neg haccepts, hleft⟩), rfl⟩
    · cases l.fine with
      | false => exact silent_of_strobes rfl (new := [_, _]) rfl rfl le_rfl
      | true => exact silent_of_strobes rfl (new := [_, _, _]) rfl rfl le_rfl

/-- A search ends, since the codes of the DAC do. -/
theorem AtLoop.endsWithin (h : s.AtLoop l d) (hsource : s.sourceMode = s.cfg.sourceFor l.t) :
    EndsWithin (7 * d + 1) d l.t s s := by
  induction d generalizing s l with
  | zero =>
    refine endsWithin_of_searchEnd (.inr ?_) hsource
    rcases h with ⟨hseq, hd⟩ | ⟨hseq, hd⟩
    · exact .inl ⟨hseq, BitVec.le_def.2 (Nat.le_of_sub_eq_zero hd.symm)⟩
    · exact .inr ⟨hseq, BitVec.eq_of_toNat_eq hd.symm⟩
  | succ d ih =>
    obtain ⟨i, hi, ⟨l', hnext, ht⟩, hsilent, hmode⟩ := h.iterate
    have hsource' : (s.turns i).sourceMode = (s.turns i).cfg.sourceFor l'.t := by
      rw [hmode, hsilent.cfg, ht, hsource]
    have hends : EndsWithin (7 * d + 1) d l.t (s.turns i) (s.turns i) := by
      rw [← ht]
      rcases hnext with hdone | hloop
      · exact (endsWithin_of_searchEnd (.inl hdone) hsource').mono (by omega) d.zero_le
      · exact ih hloop hsource'
    exact (hends.of_silent hsilent).of_turns.mono (by omega) (Nat.add_comm 1 d).le

/-- The codes left are among the DAC's. -/
theorem AtLoop.endsWithin_dacMax (h : s.AtLoop l d) (hsource : s.sourceMode = s.cfg.sourceFor l.t)
    (hdac : s.dacCode ≤ s.cfg.dacMax) :
    EndsWithin (7 * s.cfg.dacMax.toNat + 1) s.cfg.dacMax.toNat l.t s s := by
  have hd : d ≤ s.cfg.dacMax.toNat := by
    rcases h with ⟨-, rfl⟩ | ⟨-, rfl⟩
    · exact Nat.sub_le _ _
    · exact hdac
  exact (h.endsWithin hsource).mono (by omega) hd

/-- The loop behind a source switch of three transitions (R177, R180). -/
theorem AtLoop.endsWithin_of_switch (h : t.AtLoop l d) (hturns : s.turns 3 = t) (hsilent : Silent 0 s t)
    (hsource : t.sourceMode = t.cfg.sourceFor l.t) (hdac : t.dacCode ≤ t.cfg.dacMax) :
    EndsWithin (7 * s.cfg.dacMax.toNat + 4) s.cfg.dacMax.toNat l.t s s := by
  have hends := (h.endsWithin_dacMax hsource hdac).of_silent_zero hsilent
  rw [hsilent.cfg, ← hturns] at hends
  exact hends.of_turns.mono (by omega) le_rfl

/-- The loop whose head is the entry's own transition, where nothing is switched (R177, R180). -/
theorem AtLoop.endsWithin_of_no_switch {q : Seq} (h : (s.goto q).AtLoop l d) (hq : q ≠ .idle)
    (hturn : s.turn = (s.goto q).turn) (hsource : s.sourceMode = s.cfg.sourceFor l.t)
    (hdac : s.dacCode ≤ s.cfg.dacMax) : EndsWithin (7 * s.cfg.dacMax.toNat + 4) s.cfg.dacMax.toNat l.t s s := by
  have hends : EndsWithin (7 * s.cfg.dacMax.toNat + 1) s.cfg.dacMax.toNat l.t s (s.goto q) :=
    (h.endsWithin_dacMax hsource hdac).of_silent_zero ⟨rfl, rfl, le_rfl⟩
  exact (EndsWithin.of_turn_eq hq hturn hends).mono (by omega) le_rfl

/-- The entry of a search leads to its loop with the source for the target on (R177, R180). -/
theorem Inv.entry_endsWithin (hs : s.Inv) (h : s.seq = .decEntry l ∨ s.seq = .incEntry l) :
    EndsWithin (7 * s.cfg.dacMax.toNat + 4) s.cfg.dacMax.toNat l.t s s := by
  obtain ⟨hswitchDec, hswitchInc, hloopDec, hloopInc⟩ := sourceSwitchesAtTheActivationThreshold s l
  rcases h with hseq | hseq
  · obtain ⟨⟨-, hmode⟩, hon, -, hlt⟩ := hs.atSeq hseq
    by_cases hcross : s.cfg.stepupThresholdMv ≤ s.requestedVoltageMv ∧ l.t < s.cfg.stepupThresholdMv
    · obtain ⟨hreq, ht⟩ := hcross
      exact AtLoop.endsWithin_of_switch (.inl ⟨rfl, rfl⟩) (hswitchDec hseq hreq ht)
        (silent_of_strobes rfl (new := [_]) rfl rfl le_rfl) (Cfg.sourceFor_of_lt ht).symm hs.dacBounded
    · exact AtLoop.endsWithin_of_no_switch (.inl ⟨rfl, rfl⟩) nofun (hloopDec hseq hcross)
        ((hmode hon).trans (Cfg.sourceFor_eq_of_not_crossed hlt hcross).symm) hs.dacBounded
  · obtain ⟨⟨-, hmode⟩, hon, -, hlt⟩ := hs.atSeq hseq
    by_cases hcross : s.requestedVoltageMv < s.cfg.stepupThresholdMv ∧ s.cfg.stepupThresholdMv ≤ l.t
    · obtain ⟨hreq, ht⟩ := hcross
      exact AtLoop.endsWithin_of_switch (.inr ⟨rfl, rfl⟩) (hswitchInc hseq hreq ht)
        (silent_of_strobes rfl (new := [_]) rfl rfl le_rfl) (Cfg.sourceFor_of_le ht).symm hs.dacBounded
    · exact AtLoop.endsWithin_of_no_switch (.inr ⟨rfl, rfl⟩) nofun (hloopInc hseq hcross)
        ((hmode hon).trans (Cfg.sourceFor_eq_of_not_crossed hlt fun hc => hcross hc.symm)) hs.dacBounded

/-! ## The commands -/

theorem adcConfigure_silent (s : State) (ch : BitVec 2) (g : U8) (q : Seq) :
    Silent 0 s ((s.adcConfigure ch g).goto q) := by
  rcases s.adcConfigure_cases ch g with ⟨-, heq⟩ | ⟨-, heq⟩ <;>
    rw [heq]
  · exact silent_of_strobes rfl (new := []) rfl rfl le_rfl
  · exact silent_of_strobes rfl (new := [_]) rfl rfl le_rfl

/-- An Update whose target is already clamped (R174, R176, R184). -/
theorem Accepted.updateTo_endsWithin (h : s.Accepted) (hon : s.sourceMode ≠ .off) (mv : U16) (f : U8) :
    EndsWithin (7 * s.cfg.dacMax.toNat + 4) s.cfg.dacMax.toNat mv s (s.updateTo mv f) := by
  by_cases heq : mv = s.requestedVoltageMv
  · obtain ⟨-, -, -, hmode⟩ := h
    rw [updateTo_of_eq heq]
    subst heq
    exact ⟨0, Nat.zero_le _, ⟨rfl, rfl⟩, List.countP_cons_of_pos rfl,
      (List.countP_cons_of_neg Bool.false_ne_true).le.trans (Nat.le_add_right _ _), rfl, hmode hon, _, rfl⟩
  · have hs : (s.updateTo mv f).Inv := updateTo_inv h hon
    rw [updateTo_of_ne heq] at hs ⊢
    have hentry := hs.entry_endsWithin (l := ⟨mv, s.lastMeasuredVoltageMv, false, true, f⟩) (by
      rw [goto_seq]
      split
      · exact .inl rfl
      · exact .inr rfl)
    rw [goto_cfg, adcConfigure_cfg] at hentry
    exact hentry.of_silent_zero (s.adcConfigure_silent _ _ _)

/-- The target as R175 clamps it. -/
def clampedTarget (s : State) (mv : U16) : U16 := if mv < s.cfg.vbiasMinMv then s.cfg.vbiasMinMv else mv

theorem Accepted.clampQuench (h : s.Accepted) : s.clampQuench.Accepted := by
  obtain ⟨hb, hbusy, hpins, hmode⟩ := h
  have hquench : { s.pins with quenchEn := false } = s.pins := by rw [← hpins.quenchEn_eq_false]
  have hsettled : s.clampQuench.Settled := by
    rw [State.clampQuench, hquench]
    exact ⟨hpins, hmode⟩
  exact ⟨hb, hbusy, hsettled⟩

/-- An Update from the line `t <- mv` (R174, R175, R184). -/
theorem Accepted.updateFrom_endsWithin (h : s.Accepted) (hon : s.sourceMode ≠ .off) (mv : U16) :
    EndsWithin (7 * s.cfg.dacMax.toNat + 5) s.cfg.dacMax.toNat (s.clampedTarget mv) s (s.updateFrom mv) := by
  by_cases hlt : mv < s.cfg.vbiasMinMv
  · have hends : EndsWithin (7 * s.cfg.dacMax.toNat + 4) s.cfg.dacMax.toNat s.cfg.vbiasMinMv s
        (s.clampQuench.updateTo s.cfg.vbiasMinMv Flag.clamped) :=
      (h.clampQuench.updateTo_endsWithin hon s.cfg.vbiasMinMv Flag.clamped).of_silent_zero ⟨rfl, rfl, le_rfl⟩
    have hturn : s.clampQuench.turns 1 = s.clampQuench.updateTo s.cfg.vbiasMinMv Flag.clamped :=
      turns_one_of_updateClamped rfl
    rw [← hturn] at hends
    rw [updateFrom_of_lt hlt, clampedTarget, if_pos hlt]
    exact hends.of_turns.mono (by omega) le_rfl
  · rw [updateFrom_of_le (BitVec.not_lt.1 hlt), clampedTarget, if_neg hlt]
    exact (h.updateTo_endsWithin hon mv 0).mono (by omega) le_rfl

/-- The invariant of `turn_inv`, after any number of transitions. -/
theorem turns_inv (hs : s.Inv) (n : Nat) : (s.turns n).Inv := by
  induction n generalizing s with
  | zero => exact hs
  | succ n ih => exact ih (turn_inv hs)

/-- `VBIAS.UPDATE` from its acceptance (R184). -/
theorem Inv.busy_updateFrom_endsWithin (hs : s.Inv) (hidle : s.Idle) (hon : s.sourceMode ≠ .off) (mv : U16) :
    EndsWithin (7 * s.cfg.dacMax.toNat + 5) s.cfg.dacMax.toNat (s.clampedTarget mv) s (s.busy.updateFrom mv) := by
  obtain ⟨hb, -, -⟩ := inv_iff.1 hs
  have hset : s.Settled := hs.atSeq hidle.seqIdle
  have haccepted : s.busy.Accepted := ⟨hb, rfl, hset⟩
  exact (haccepted.updateFrom_endsWithin hon mv).of_silent_zero ⟨rfl, rfl, le_rfl⟩

/-- `VBIAS.ENABLE` where it goes on as Update (R172, R184). -/
theorem Inv.enableUpdate_endsWithin (hs : s.Inv) (hseq : s.seq = .enableUpdate mv) :
    EndsWithin (7 * s.cfg.dacMax.toNat + 6) s.cfg.dacMax.toNat (s.clampedTarget mv) s s := by
  obtain ⟨hb, hbusy, hset, hon⟩ := hs.inside hseq nofun
  have hends := Accepted.updateFrom_endsWithin ⟨hb, hbusy, hset⟩ hon mv
  have hturn : s.turns 1 = s.updateFrom mv := turn_of_enableUpdate hseq
  rw [← hturn] at hends
  exact hends.of_turns.mono (by omega) le_rfl

/-- `VBIAS.ENABLE` after its first micro-step (R172, R184). -/
theorem Inv.enableLdo_endsWithin (hs : s.Inv) (hseq : s.seq = .enableLdo mv) :
    EndsWithin (7 * s.cfg.dacMax.toNat + 9) s.cfg.dacMax.toNat (s.clampedTarget mv) s s := by
  have hinv := turns_inv hs 3
  rw [turns_three_of_enableLdo hseq] at hinv
  have hends : EndsWithin (7 * s.cfg.dacMax.toNat + 6) s.cfg.dacMax.toNat (s.clampedTarget mv) s
      (((s.enableLdo mv).delay s.cfg.tSoftstart).goto (.enableUpdate mv)) :=
    (hinv.enableUpdate_endsWithin (goto_seq _ _)).of_silent_zero
      (silent_of_strobes rfl (new := [_]) rfl rfl le_rfl)
  rw [← turns_three_of_enableLdo hseq] at hends
  exact hends.of_turns.mono (by omega) le_rfl

end State

/-- What R184 says of one command: it ends within `n` transitions and, where `accepted` says that it is not refused, at
`target`. -/
def AlwaysEnds (i : Instr) (n : Nat) (accepted : Prop) (target : U16) (s : State) : Prop :=
  ∃ (t u : State) (k : Nat), exec i s = .next t ∧ u = t.turns k ∧ k ≤ n ∧ u.Idle ∧
    u.responseCount = s.responseCount + 1 ∧ u.sampleCount ≤ s.sampleCount + s.cfg.dacMax.toNat ∧
    (accepted → u.requestedVoltageMv = target ∧ u.sourceMode = s.cfg.sourceFor target ∧
      ∃ f : U8, u.strobes.head? = some (.response f (u.lastMeasuredVoltageMv.setWidth 32)))

theorem alwaysEnds_of_endsWithin {s t : State} {i : Instr} {n : Nat} {accepted : Prop} {target : U16}
    (hexec : exec i s = .next t) (h : State.EndsWithin n s.cfg.dacMax.toNat target s t) :
    AlwaysEnds i n accepted target s := by
  obtain ⟨k, hk, hends⟩ := h
  exact ⟨t, _, k, hexec, rfl, hk, hends.idle, hends.responses, hends.samples,
    fun _ => ⟨hends.requested, hends.source, hends.value⟩⟩

/-- A refusal is the end of its command. -/
theorem alwaysEnds_of_refused {s : State} {i : Instr} {n : Nat} {accepted : Prop} {target : U16} (hidle : s.Idle)
    (hno : ¬ accepted) (hexec : exec i s = .next { s with strobes := .response Flag.illegal 0 :: s.strobes }) :
    AlwaysEnds i n accepted target s :=
  ⟨_, _, 0, hexec, rfl, n.zero_le, ⟨hidle.notBusy, hidle.seqIdle⟩, List.countP_cons_of_pos rfl,
    (List.countP_cons_of_neg Bool.false_ne_true).le.trans (Nat.le_add_right _ _), fun h => absurd h hno⟩

/-- Settles O44: a refused command ends at once, and one that is not leads to a search, which the codes of the DAC
bound. -/
theorem updateAndEnableAlwaysEnd : Obligations.UpdateAndEnableAlwaysEnd := by
  rintro s mv target hs hidle rfl
  by_cases hoff : s.sourceMode = .off
  · have hinv : (s.busy.enableReset mv).Inv := exec_inv hs rfl (exec_vbiasEnable_of_off hidle hoff mv)
    have hreset := (hinv.enableLdo_endsWithin rfl).of_silent_zero (s := s) ⟨rfl, rfl, le_rfl⟩
    exact ⟨alwaysEnds_of_refused hidle (not_not_intro hoff) (exec_vbiasUpdate_of_off hidle hoff mv),
      alwaysEnds_of_endsWithin (exec_vbiasEnable_of_off hidle hoff mv) hreset⟩
  · exact ⟨alwaysEnds_of_endsWithin (exec_vbiasUpdate_of_on hidle hoff mv)
        (hs.busy_updateFrom_endsWithin hidle hoff mv),
      alwaysEnds_of_refused hidle hoff (exec_vbiasEnable_of_on hidle hoff mv)⟩

end Sys2Proof.Machine
end

section
/-! Proofs about the register read (44_register_read.md): `RDREG` answers a register in one transition (R200), and a
reserved number and a word with a reserved bit are refused (R201). -/

namespace Sys2Proof

/-- The operand of `RDREG` is eight bits wide (R93, R94). -/
theorem fitsIn_operandField_of_decode_rdreg {c : Cfg} {w : OpWord} {i : Instr} (hop : opField w = 0x50#8)
    (h : decode c w = .instr i) : FitsIn 8 (operandField w) := by
  rw [decode, hop] at h
  obtain ⟨hfits, -⟩ := (checkOperand_eq_instr_iff 0x50#8 8 _ _ _).1 h
  exact hfits

namespace Machine

namespace State

variable {s : State} {n : U8}

/-- The companion of `readRegister_isSome_iff` for the reserved numbers. -/
theorem readRegister_eq_none {k : Nat} (h : 23 ≤ k) : s.readRegister k = none :=
  Option.not_isSome_iff_eq_none.1 fun hsome => Nat.not_le.2 h ((s.readRegister_isSome_iff k).1 hsome)

/-- Accepting a command changes no numbered register. -/
theorem readRegister_busy (s : State) (k : Nat) : s.busy.readRegister k = s.readRegister k := rfl

theorem rdregFirst_of_some {v : U32} (h : s.readRegister n.toNat = some v) :
    s.rdregFirst n = s.goto (.respond 0 v) := by
  simp only [rdregFirst, h]

theorem rdregFirst_of_none (h : s.readRegister n.toNat = none) : s.rdregFirst n = s.refuse := by
  simp only [rdregFirst, h]

end State

/-- An idle block accepts `RDREG` (R96). -/
theorem exec_rdreg_of_idle {s : State} (h : s.Idle) (n : U8) : exec (.rdreg n) s = .next (s.busy.rdregFirst n) :=
  congrArg Host.Outcome.next (State.accept_eq_busy h _)

/-- R200, up to the response. -/
theorem exec_rdreg_of_some {s : State} {n : U8} {v : U32} (h : s.Idle) (hread : s.readRegister n.toNat = some v) :
    exec (.rdreg n) s = .next (s.busy.goto (.respond 0 v)) := by
  rw [exec_rdreg_of_idle h, State.rdregFirst_of_some ((s.readRegister_busy _).trans hread)]

/-- R201. -/
theorem exec_rdreg_of_none {s : State} {n : U8} (h : s.Idle) (hread : s.readRegister n.toNat = none) :
    exec (.rdreg n) s = .next { s with strobes := .response Flag.illegal 0 :: s.strobes } := by
  rw [exec_rdreg_of_idle h, State.rdregFirst_of_none ((s.readRegister_busy _).trans hread), State.refuse_busy h]

/-- Settles O48: the number decides between the read and the refusal, and an operand that does not fit makes the word no
command. -/
theorem rdregReadsOrRefuses : Obligations.RdregReadsOrRefuses := by
  refine fun s n hidle => ⟨rfl, fun hle => ?_, fun hge => exec_rdreg_of_none hidle (State.readRegister_eq_none hge),
    fun w rest hwf hschedule hop hwide => ?_⟩
  · obtain ⟨v, hread⟩ := Option.isSome_iff_exists.1 ((s.readRegister_isSome_iff n.toNat).2 hle)
    refine ⟨_, v, hread, exec_rdreg_of_some hidle hread, rfl, ?_⟩
    rw [State.turns_one_of_respond (State.goto_seq _ _)]
    exact State.respond_restores_idle hidle _ 0 v
  · refine nonCommandsOnThePortAreAnsweredIllegal s w rest hwf hidle (.inl ⟨hschedule, fun i hdecode => ?_⟩)
    have hfits : FitsIn 8 (operandField w) := fitsIn_operandField_of_decode_rdreg hop hdecode
    exact absurd hfits (Nat.not_lt.2 hwide)

end Machine

end Sys2Proof
end

section
/-! Proofs about exceptions (60_exceptions.md): every input answers a next state (R210), and the one trace that is
refused holds an ill-formed event word (30_encoding.md R95 (b)). -/

namespace Sys2Proof.Machine

/-- The command port has an answer to every word: it runs a command, and refuses or ignores all else (R95 (a), R97). -/
theorem commandPort_eq_next (w : OpWord) (s : State) : ∃ t : State, commandPort w s = .next t := by
  unfold commandPort
  split
  · next i _ =>
    split
    · exact ⟨_, rejectOnPort_eq s⟩
    · exact exec_eq_next i s
  · exact ⟨_, rejectOnPort_eq s⟩
  · exact ⟨_, rejectOnPort_eq s⟩

/-- A word of a program is run, is answered on the command port, or spells no event (R95). -/
theorem deliver_eq_next_or_illFormed (w : OpWord) (s : State) :
    (∃ t : State, deliver w s = .next t) ∨
      ∃ op : U8, decode s.cfg w = .reservedOperand op ∧ isEventOpcode op = true := by
  unfold deliver
  split
  · next i _ => exact .inl (exec_eq_next i s)
  · exact .inl ⟨_, rejectOnPort_eq s⟩
  · next op hdecode =>
    split
    · next hop => exact .inr ⟨op, hdecode, hop⟩
    · exact .inl ⟨_, rejectOnPort_eq s⟩

theorem transition_of_rst {s : State} {rest : List Input} (h : s.schedule = .rst :: rest) :
    transition s = .next { s with schedule := rest }.resetInput := by
  simp only [transition, h]

/-- Settles O15: of the inputs only a word of the program can be refused, and it is refused only as an ill-formed event
word. -/
theorem stepAnswersNextUnlessTheTraceIsIllFormed : Obligations.StepAnswersNextUnlessTheTraceIsIllFormed := by
  intro s hwf
  cases hs : s.schedule with
  | nil =>
    obtain ⟨hnil, -⟩ := foregroundTakesItsTurn s [] hwf
    exact .inl ⟨_, hnil hs⟩
  | cons x rest =>
    obtain ⟨-, hprogress, hawaitBusy, hawaitIdle⟩ := foregroundTakesItsTurn s rest hwf
    cases x with
    | trace w =>
      have hstep := step_of_trace hwf hs
      rcases deliver_eq_next_or_illFormed w { s with schedule := rest } with ⟨t, ht⟩ | ⟨op, hdecode, hop⟩
      · exact .inl ⟨t, hstep.trans ht⟩
      · exact .inr ⟨w, rest, op, rfl, hdecode, hop, hstep.trans (deliver_of_reservedOperand hdecode hop)⟩
    | command w =>
      rw [step_of_command hwf hs]
      exact .inl (commandPort_eq_next w _)
    | adcRsp code => exact .inl ⟨_, hprogress (.adcRsp code) hs⟩
    | dlyDone => exact .inl ⟨_, hprogress .dlyDone hs⟩
    | turn => exact .inl ⟨_, hprogress .turn hs⟩
    | await =>
      cases hbusy : s.fgBusy with
      | true => exact .inl ⟨_, hawaitBusy hs hbusy⟩
      | false => exact .inl ⟨_, hawaitIdle hs hbusy⟩
    | rst => exact .inl ⟨_, (step_of_wf s hwf).trans (transition_of_rst hs)⟩

end Sys2Proof.Machine
end

section
/-! Proofs about reset (70_reset_and_hazards.md): the reset input is one transition (R241) to the state of the reset table
(R240), and that state meets the invariant. -/

namespace Sys2Proof.Machine

/-- Settles O10: the reset input's branch of the transition, whatever the position of the sequencer. -/
theorem resetInputGivesTheResetState : Obligations.ResetInputGivesTheResetState := by
  intro s rest hwf hs
  calc step s = transition s := step_of_wf s hwf
    _ = .next { s with schedule := rest }.resetInput := transition_of_rst hs
    _ = .next { State.resetWith s.cfg with schedule := rest, oracle := s.oracle } := rfl

namespace State

/-- No register of R50 shows the configuration, so one configuration's reset state stands for all. -/
theorem readRegister_resetWith (c : Cfg) (n : Nat) : (resetWith c).readRegister n = reset.readRegister n := rfl

/-- Every assigned number of R50 reads zero after reset, the composite registers included. -/
theorem readRegister_reset : ∀ n : Nat, n ≤ 22 → reset.readRegister n = some 0 := by decide

end State

/-- Settles O11: the registers by number, then the rows of R240's table as fields, the pins and the strobes among them. -/
theorem resetValuesAreThoseOfTheTable : Obligations.ResetValuesAreThoseOfTheTable := by
  intro c
  have hregisters : ∀ n : Nat, n ≤ 22 → (State.resetWith c).readRegister n = some 0 :=
    fun n hn => (State.readRegister_resetWith c n).trans (State.readRegister_reset n hn)
  exact ⟨hregisters, rfl, rfl, rfl, rfl, rfl, rfl, rfl, rfl, rfl, rfl, rfl, rfl, rfl, rfl, rfl, rfl⟩

/-- Settles O12: the base case of the invariant (`State.resetWith_inv`). -/
theorem resetMeetsTheInvariant : Obligations.ResetMeetsTheInvariant := State.resetWith_inv

end Sys2Proof.Machine
end

section
/-! Proofs about the words written in the test vectors (95_test_vectors.md): a written word is the encoding of the operation
beside it (R90 to R94), or its operand does not fit the field of its opcode (R94, R95). -/

namespace Sys2Proof

/-- The two directions of the round trip in one. -/
theorem decode_eq_instr_iff (c : Cfg) (w : OpWord) (i : Instr) :
    decode c w = .instr i ↔ encode i = w ∧ i.wf c = true := by
  constructor
  · exact decodedWordIsItsEncoding c w i
  · rintro ⟨rfl, hwf⟩
    exact decodeOfEncodeIsTheInstruction c i hwf

theorem checkOperand_of_not_fitsIn {op : U8} {bits : Nat} {x : U32} {i : Instr} (h : ¬ FitsIn bits x) :
    checkOperand op bits x i = .reservedOperand op := if_neg h

/-- Settles O4: seven words are the encodings of well-formed operations; the operand 0x100 does not fit the eight bits of
`CAP.ENTER`'s field, and the operand 1 is not the zero that `CAPOVF` needs. -/
theorem writtenWordsDecode : Obligations.WrittenWordsDecode := by
  have hread {w : OpWord} {i : Instr} (h : encode i = w ∧ i.wf .testVector = true) : decode .testVector w = .instr i :=
    (decode_eq_instr_iff ..).2 h
  have hcapEnter : ¬ FitsIn 8 0x100#32 := by decide
  have hcapovf : ¬ FitsIn 0 1#32 := by decide
  exact ⟨hread (by decide), hread (by decide), hread (by decide), hread (by decide), hread (by decide), hread (by decide),
    hread (by decide), (decode_makeWord _ 0x20#8 0x100#32).trans (checkOperand_of_not_fitsIn hcapEnter),
    (decode_makeWord _ 0x12#8 1#32).trans (checkOperand_of_not_fitsIn hcapovf)⟩

end Sys2Proof
end
